-- ==== Sys2Proof/Word.lean ====
section
/-! DEFINITION. The bit vectors FXP64 has on its ports and in its registers (rules R8, R21). -/

namespace Sys2Proof

/-- A value on an operand bus, in RES or on `rsp_res`: 256 bits (R8). -/
abbrev Bus := BitVec 256

/-- A command word (R8, R70). -/
abbrev CmdWord := BitVec 32

/-- An error code, as on `rsp_err` and in STATUS.LASTERR: 3 bits (R8, R240). -/
abbrev ErrCode := BitVec 3

/-- The STATUS register as `status_q` shows it: 4 bits (R8, R40). -/
abbrev StatusWord := BitVec 4

end Sys2Proof
end

