-- ==== Sys2Proof/Syntax.lean ====
section
/-! DEFINITION. The commands of FXP64, one constructor per row of the opcode map (R76), and the types of their operands
and results (R75). -/

namespace Sys2Proof

/-- The source of an operand (R72): the operand's bus, or RES. -/
inductive Src where
  /-- Source bit 0: bus `a` for operand A, bus `b` for operand B. -/
  | bus
  /-- Source bit 1: the result register. -/
  | res
deriving DecidableEq, Repr

/-- The types of operands and results in the opcode map (R75, R76). The map's `int256 (128.128)` is `int256` here: the two
denote the same integer (R75). -/
inductive ValueType where
  | fixed
  | int64
  | int128
  | int256
  | uint64
  | uint256
deriving DecidableEq, Repr

/-- One FXP64 command. `sa` and `sb` are the operand sources of R72; an operand the command does not read has none, because
its source bit must be 0. `d` and `k` are the immediates of R73. -/
inductive Instr where
  | nop
  | fromint (sa : Src)
  | toint (sa : Src)
  | fromuint (sa : Src)
  | touint (sa : Src)
  | from128 (sa : Src)
  | to128 (sa : Src)
  | fromdec (sa : Src) (d : BitVec 8)
  | todec (sa : Src) (d : BitVec 8)
  | add (sa sb : Src)
  | sub (sa sb : Src)
  | neg (sa : Src)
  | abs (sa : Src)
  | avg (sa sb : Src)
  | mul (sa sb : Src)
  | muli (sa sb : Src)
  | mulu (sa sb : Src)
  | div (sa sb : Src)
  | divi (sa sb : Src)
  | divu (sa sb : Src)
  | inv (sa : Src)
  | gavg (sa sb : Src)
  | pow (sa sb : Src)
  | sqrt (sa : Src)
  | log2 (sa : Src)
  | ln (sa : Src)
  | exp2 (sa : Src)
  | exp (sa : Src)
  | mov (sa : Src)
  | ldc (k : BitVec 8)
  | clrst
deriving DecidableEq, Repr

end Sys2Proof
end

