-- ==== Sys2Proof/WellFormed.lean ====
section
/-! DEFINITION. Which terms of `Instr` are commands: the one operand restriction that the syntax does not carry is LDC's
index (R77). -/

namespace Sys2Proof

/-- R77: every field combination is a command but for an LDC index above 4. -/
def Instr.wellFormed : Instr → Bool
  | .ldc k => decide (k.toNat ≤ 4)
  | _ => true

end Sys2Proof
end

