-- ==== Sys2Proof/Decode.lean ====
section
/-! DEFINITION. The command word CMD32: the opcode map (R76), legality (R77), the decoder, and after it the encoder. -/

namespace Sys2Proof

/-- Why a word is not a command (R77, R78). Each is IllegalCommand to the machine (R245). -/
inductive Illegal where
  /-- A bit of `w[31:16]` is set (R74). -/
  | reservedBits
  /-- OP is none of the 31 opcodes (R78). -/
  | reservedOpcode
  /-- SA is set and the command reads no operand A (R72). -/
  | sourceA
  /-- SB is set and the command reads no operand B (R72). -/
  | sourceB
  /-- IMM is not 0 and the command has no immediate (R73). -/
  | immediate
  /-- LDC with IMM above 4 (R77). -/
  | romIndex
deriving DecidableEq, Repr

/-- The field OP, `w[5:0]` (R70). -/
def opField (w : CmdWord) : BitVec 6 := w.extractLsb' 0 6

/-- The field SA, `w[6]` (R70). -/
def saField (w : CmdWord) : BitVec 1 := w.extractLsb' 6 1

/-- The field SB, `w[7]` (R70). -/
def sbField (w : CmdWord) : BitVec 1 := w.extractLsb' 7 1

/-- The field IMM, `w[15:8]` (R70). -/
def immField (w : CmdWord) : BitVec 8 := w.extractLsb' 8 8

/-- The field RSV, `w[31:16]` (R70). -/
def rsvField (w : CmdWord) : BitVec 16 := w.extractLsb' 16 16

/-- A source bit as a source: 0 is the bus, 1 is RES (R72). -/
def srcOfBit (x : BitVec 1) : Src := if x = 1#1 then .res else .bus

/-- A command that reads no operand and no immediate: SA, SB and IMM must be 0. -/
def formNone (sa sb : BitVec 1) (imm : BitVec 8) (i : Instr) : Except Illegal Instr :=
  if sa ≠ 0#1 then .error .sourceA
  else if sb ≠ 0#1 then .error .sourceB
  else if imm ≠ 0#8 then .error .immediate
  else .ok i

/-- A command that reads operand A only: SB and IMM must be 0. -/
def formA (sa sb : BitVec 1) (imm : BitVec 8) (f : Src → Instr) : Except Illegal Instr :=
  if sb ≠ 0#1 then .error .sourceB
  else if imm ≠ 0#8 then .error .immediate
  else .ok (f (srcOfBit sa))

/-- A command that reads operands A and B: IMM must be 0. -/
def formAB (sa sb : BitVec 1) (imm : BitVec 8) (f : Src → Src → Instr) : Except Illegal Instr :=
  if imm ≠ 0#8 then .error .immediate
  else .ok (f (srcOfBit sa) (srcOfBit sb))

/-- FROMDEC and TODEC: operand A and the decimal exponent; SB must be 0. -/
def formADec (sa sb : BitVec 1) (imm : BitVec 8) (f : Src → BitVec 8 → Instr) : Except Illegal Instr :=
  if sb ≠ 0#1 then .error .sourceB
  else .ok (f (srcOfBit sa) imm)

/-- LDC: the ROM index, 0 to 4; SA and SB must be 0. -/
def formRom (sa sb : BitVec 1) (imm : BitVec 8) : Except Illegal Instr :=
  if sa ≠ 0#1 then .error .sourceA
  else if sb ≠ 0#1 then .error .sourceB
  else if 4 < imm.toNat then .error .romIndex
  else .ok (.ldc imm)

/-- The command of an opcode and the other fields (R76), RSV apart. -/
def decodeOp (op : Nat) (sa sb : BitVec 1) (imm : BitVec 8) : Except Illegal Instr :=
  match op with
  | 0x00 => formNone sa sb imm .nop
  | 0x01 => formA sa sb imm .fromint
  | 0x02 => formA sa sb imm .toint
  | 0x03 => formA sa sb imm .fromuint
  | 0x04 => formA sa sb imm .touint
  | 0x05 => formA sa sb imm .from128
  | 0x06 => formA sa sb imm .to128
  | 0x07 => formADec sa sb imm .fromdec
  | 0x08 => formADec sa sb imm .todec
  | 0x10 => formAB sa sb imm .add
  | 0x11 => formAB sa sb imm .sub
  | 0x12 => formA sa sb imm .neg
  | 0x13 => formA sa sb imm .abs
  | 0x14 => formAB sa sb imm .avg
  | 0x18 => formAB sa sb imm .mul
  | 0x19 => formAB sa sb imm .muli
  | 0x1A => formAB sa sb imm .mulu
  | 0x1B => formAB sa sb imm .div
  | 0x1C => formAB sa sb imm .divi
  | 0x1D => formAB sa sb imm .divu
  | 0x1E => formA sa sb imm .inv
  | 0x20 => formAB sa sb imm .gavg
  | 0x21 => formAB sa sb imm .pow
  | 0x22 => formA sa sb imm .sqrt
  | 0x23 => formA sa sb imm .log2
  | 0x24 => formA sa sb imm .ln
  | 0x25 => formA sa sb imm .exp2
  | 0x26 => formA sa sb imm .exp
  | 0x30 => formA sa sb imm .mov
  | 0x31 => formRom sa sb imm
  | 0x32 => formNone sa sb imm .clrst
  | _ => .error .reservedOpcode

/-- The decoder: a command, or the reason why the word is illegal. Total on the `2^32` words (R77). -/
def decode (w : CmdWord) : Except Illegal Instr :=
  if rsvField w ≠ 0#16 then .error .reservedBits
  else decodeOp (opField w).toNat (saField w) (sbField w) (immField w)

/-- The decoder on a word numbered as spec/opcode_table.json numbers it. A command is 32 bits (R80), bits the table leaves
out are 0, and a number that is no 32-bit word is refused. -/
def decodeTableWord (nbits w : Nat) : Option Instr :=
  if 32 < nbits ∨ 2 ^ 32 ≤ w then none
  else match decode (BitVec.ofNat 32 w) with
    | .ok i => some i
    | .error _ => none

/-- What a row of R76 says of IMM (R73). -/
inductive ImmUse where
  | mustBeZero
  | decimals
  | romIndex
deriving DecidableEq, Repr

/-- One row of the opcode map (R76), in its columns' order. `none` is the map's `-`, and its `none` for a result. -/
structure Row where
  op : Nat
  mnemonic : String
  operandA : Option ValueType
  operandB : Option ValueType
  imm : ImmUse
  result : Option ValueType
  matchBits : BitVec 32
  mask : BitVec 32
deriving DecidableEq, Repr

/-- The row of R76 that a command belongs to. -/
def Instr.row : Instr → Row
  | .nop => ⟨0x00, "NOP", none, none, .mustBeZero, none, 0x00000000, 0xFFFFFFFF⟩
  | .fromint _ => ⟨0x01, "FROMINT", some .int128, none, .mustBeZero, some .fixed, 0x00000001, 0xFFFFFFBF⟩
  | .toint _ => ⟨0x02, "TOINT", some .fixed, none, .mustBeZero, some .int64, 0x00000002, 0xFFFFFFBF⟩
  | .fromuint _ => ⟨0x03, "FROMUINT", some .uint64, none, .mustBeZero, some .fixed, 0x00000003, 0xFFFFFFBF⟩
  | .touint _ => ⟨0x04, "TOUINT", some .fixed, none, .mustBeZero, some .uint64, 0x00000004, 0xFFFFFFBF⟩
  | .from128 _ => ⟨0x05, "FROM128", some .int256, none, .mustBeZero, some .fixed, 0x00000005, 0xFFFFFFBF⟩
  | .to128 _ => ⟨0x06, "TO128", some .fixed, none, .mustBeZero, some .int256, 0x00000006, 0xFFFFFFBF⟩
  | .fromdec _ _ => ⟨0x07, "FROMDEC", some .uint256, none, .decimals, some .fixed, 0x00000007, 0xFFFF00BF⟩
  | .todec _ _ => ⟨0x08, "TODEC", some .fixed, none, .decimals, some .uint256, 0x00000008, 0xFFFF00BF⟩
  | .add _ _ => ⟨0x10, "ADD", some .fixed, some .fixed, .mustBeZero, some .fixed, 0x00000010, 0xFFFFFF3F⟩
  | .sub _ _ => ⟨0x11, "SUB", some .fixed, some .fixed, .mustBeZero, some .fixed, 0x00000011, 0xFFFFFF3F⟩
  | .neg _ => ⟨0x12, "NEG", some .fixed, none, .mustBeZero, some .fixed, 0x00000012, 0xFFFFFFBF⟩
  | .abs _ => ⟨0x13, "ABS", some .fixed, none, .mustBeZero, some .fixed, 0x00000013, 0xFFFFFFBF⟩
  | .avg _ _ => ⟨0x14, "AVG", some .fixed, some .fixed, .mustBeZero, some .fixed, 0x00000014, 0xFFFFFF3F⟩
  | .mul _ _ => ⟨0x18, "MUL", some .fixed, some .fixed, .mustBeZero, some .fixed, 0x00000018, 0xFFFFFF3F⟩
  | .muli _ _ => ⟨0x19, "MULI", some .fixed, some .int256, .mustBeZero, some .int256, 0x00000019, 0xFFFFFF3F⟩
  | .mulu _ _ => ⟨0x1A, "MULU", some .fixed, some .uint256, .mustBeZero, some .uint256, 0x0000001A, 0xFFFFFF3F⟩
  | .div _ _ => ⟨0x1B, "DIV", some .fixed, some .fixed, .mustBeZero, some .fixed, 0x0000001B, 0xFFFFFF3F⟩
  | .divi _ _ => ⟨0x1C, "DIVI", some .int256, some .int256, .mustBeZero, some .fixed, 0x0000001C, 0xFFFFFF3F⟩
  | .divu _ _ => ⟨0x1D, "DIVU", some .uint256, some .uint256, .mustBeZero, some .fixed, 0x0000001D, 0xFFFFFF3F⟩
  | .inv _ => ⟨0x1E, "INV", some .fixed, none, .mustBeZero, some .fixed, 0x0000001E, 0xFFFFFFBF⟩
  | .gavg _ _ => ⟨0x20, "GAVG", some .fixed, some .fixed, .mustBeZero, some .fixed, 0x00000020, 0xFFFFFF3F⟩
  | .pow _ _ => ⟨0x21, "POW", some .fixed, some .uint256, .mustBeZero, some .fixed, 0x00000021, 0xFFFFFF3F⟩
  | .sqrt _ => ⟨0x22, "SQRT", some .fixed, none, .mustBeZero, some .fixed, 0x00000022, 0xFFFFFFBF⟩
  | .log2 _ => ⟨0x23, "LOG2", some .fixed, none, .mustBeZero, some .fixed, 0x00000023, 0xFFFFFFBF⟩
  | .ln _ => ⟨0x24, "LN", some .fixed, none, .mustBeZero, some .fixed, 0x00000024, 0xFFFFFFBF⟩
  | .exp2 _ => ⟨0x25, "EXP2", some .fixed, none, .mustBeZero, some .fixed, 0x00000025, 0xFFFFFFBF⟩
  | .exp _ => ⟨0x26, "EXP", some .fixed, none, .mustBeZero, some .fixed, 0x00000026, 0xFFFFFFBF⟩
  | .mov _ => ⟨0x30, "MOV", some .uint256, none, .mustBeZero, some .uint256, 0x00000030, 0xFFFFFFBF⟩
  | .ldc _ => ⟨0x31, "LDC", none, none, .romIndex, some .fixed, 0x00000031, 0xFFFF00FF⟩
  | .clrst => ⟨0x32, "CLRST", none, none, .mustBeZero, none, 0x00000032, 0xFFFFFFFF⟩

/-- One command of each row of R76, in the map's order. -/
def rowCommands : List Instr :=
  [.nop, .fromint .bus, .toint .bus, .fromuint .bus, .touint .bus, .from128 .bus, .to128 .bus, .fromdec .bus 0, .todec .bus 0]
  ++ [.add .bus .bus, .sub .bus .bus, .neg .bus, .abs .bus, .avg .bus .bus]
  ++ [.mul .bus .bus, .muli .bus .bus, .mulu .bus .bus, .div .bus .bus, .divi .bus .bus, .divu .bus .bus, .inv .bus]
  ++ [.gavg .bus .bus, .pow .bus .bus, .sqrt .bus, .log2 .bus, .ln .bus, .exp2 .bus, .exp .bus]
  ++ [.mov .bus, .ldc 0, .clrst]

/-- The opcode map (R76). -/
def opcodeMap : List Row := rowCommands.map Instr.row

/-- The row of an opcode, or none where it is reserved (R71, R78). -/
def rowOf (op : BitVec 6) : Option Row := opcodeMap.find? (fun r => r.op == op.toNat)

/-- `legal(w)`, condition by condition as R77 writes it. The decoder does not use it: that it accepts exactly the legal words
is a claim. -/
def legal (w : CmdWord) : Bool :=
  rsvField w == 0#16 &&
  match rowOf (opField w) with
  | none => false
  | some r =>
    (saField w == 0#1 || r.operandA.isSome) &&
    (sbField w == 0#1 || r.operandB.isSome) &&
    (immField w == 0#8 || r.imm != .mustBeZero) &&
    (r.imm != .romIndex || decide ((immField w).toNat ≤ 4))

/-- A source as its bit (R72). -/
def Src.bit : Src → BitVec 1
  | .bus => 0#1
  | .res => 1#1

/-- A word from its fields (R84): `OP | SA<<6 | SB<<7 | IMM<<8`, RSV 0. -/
def wordOf (op : BitVec 6) (sa sb : BitVec 1) (imm : BitVec 8) : CmdWord :=
  0#16 ++ (imm ++ (sb ++ (sa ++ op)))

/-- SA of a command, 0 where it reads no operand A (R72). -/
def Instr.saBit : Instr → BitVec 1
  | .nop | .ldc _ | .clrst => 0#1
  | .fromint sa | .toint sa | .fromuint sa | .touint sa | .from128 sa | .to128 sa | .fromdec sa _ | .todec sa _ => sa.bit
  | .add sa _ | .sub sa _ | .avg sa _ | .mul sa _ | .muli sa _ | .mulu sa _ | .div sa _ | .divi sa _ | .divu sa _ => sa.bit
  | .gavg sa _ | .pow sa _ => sa.bit
  | .neg sa | .abs sa | .inv sa | .sqrt sa | .log2 sa | .ln sa | .exp2 sa | .exp sa | .mov sa => sa.bit

/-- SB of a command, 0 where it reads no operand B (R72). -/
def Instr.sbBit : Instr → BitVec 1
  | .add _ sb | .sub _ sb | .avg _ sb | .mul _ sb | .muli _ sb | .mulu _ sb | .div _ sb | .divi _ sb | .divu _ sb => sb.bit
  | .gavg _ sb | .pow _ sb => sb.bit
  | _ => 0#1

/-- IMM of a command, 0 where it has none (R73). -/
def Instr.immByte : Instr → BitVec 8
  | .fromdec _ d | .todec _ d => d
  | .ldc k => k
  | _ => 0#8

/-- The encoder: the one word of a well-formed command (R76, R81). -/
def encode (i : Instr) : CmdWord :=
  wordOf (BitVec.ofNat 6 i.row.op) i.saBit i.sbBit i.immByte

/-- The pseudo-instruction `FROMWEI` (R83). -/
def fromwei (sa : Src) : Instr := .fromdec sa 18#8

/-- The pseudo-instruction `TOWEI` (R83). -/
def towei (sa : Src) : Instr := .todec sa 18#8

/-- The pseudo-instruction `LDONE` (R83). -/
def ldone : Instr := .ldc 0#8

/-- The pseudo-instruction `LDMIN` (R83). -/
def ldmin : Instr := .ldc 1#8

/-- The pseudo-instruction `LDMAX` (R83). -/
def ldmax : Instr := .ldc 2#8

/-- The pseudo-instruction `LDE` (R83). -/
def lde : Instr := .ldc 3#8

/-- The pseudo-instruction `LDPI` (R83). -/
def ldpi : Instr := .ldc 4#8

end Sys2Proof
end

