-- ==== Sys2Proof/Config.lean ====
section
/-! DEFINITION. The input ports (R21) and what the spec leaves to the implementation and the host: the latency parameters
(R9, R10) and the host's inputs (R55). The values are opaque, so nothing can be proved of them but what every value has. -/

namespace Sys2Proof

/-- The values on FXP64's input ports at one rising edge of `clk` (R21). Each one-bit port is 0 or 1 (assumption 12). -/
structure Ports where
  /-- `rst`, synchronous reset, active high. -/
  rst : Bool
  /-- `cmd_valid`: the host presents a command. -/
  cmdValid : Bool
  /-- `cmd`: the command word. -/
  cmd : CmdWord
  /-- `a`: operand bus A. -/
  a : Bus
  /-- `b`: operand bus B. -/
  b : Bus
  /-- `rsp_ready`: the host consumes the response. -/
  rspReady : Bool
deriving DecidableEq, Repr, Inhabited

/-- `LAT_MAX` less one (R10), so that `LAT_MAX` is at least 1. FREE VALUE (assumption 4). -/
opaque Config.latMaxPred : Nat

/-- `LAT_MAX` (R10): an integer of at least 1 and nothing more is known of it. -/
def Config.latMax : Nat := Config.latMaxPred + 1

/-- The raw draw behind `LAT(w, A, B)` (R9) for a command accepted at the numbered edge. FREE VALUE (assumption 3). -/
opaque Config.latDraw (edge : Nat) (w : CmdWord) (opA opB : Bus) : Nat

/-- What the host drives on the input ports at the numbered edge when the state says nothing of it (R55). FREE VALUE
(assumption 2). -/
opaque Config.hostPorts (edge : Nat) : Ports

end Sys2Proof
end

