-- ==== Sys2Proof/Machine/State.lean ====
section
/-! DEFINITION. Everything the spec gives FXP64 to hold (R30, R40, R44), as plain data, and the state right after reset
(R48). FXP64 has no memory, no program counter and no mode (R45, R46, R254), so State has none. -/

namespace Sys2Proof.Machine

/-- Why a step stops with a fault. FXP64 has no such event: every word and every operand has an outcome (R77, R259) and an
error is reported, not trapped (R249), so no constructor stands here and no meaning can answer a fault (assumption 18). -/
inductive Fault where
deriving DecidableEq, Repr

/-- Why a step is refused. -/
inductive Refusal where
  /-- Raised by an arm of `exec` whose instruction has no meaning yet; no arm of this model does. Safe: the machine stops. -/
  | notModelled (mnemonic : String)
deriving DecidableEq, Repr

/-- The error kinds of R240. -/
inductive ErrorKind where
  | rangeError
  | overflowError
  | divisionByZero
  | domainError
  | illegalCommand
deriving DecidableEq, Repr

/-- The phases of the handshake (R44). -/
inductive Phase where
  /-- FXP64 can accept a command. -/
  | idle
  /-- A command is being executed. -/
  | busy
  /-- A response is held for the host. -/
  | resp
deriving DecidableEq, Repr

/-- The output of `Exec` (R47): the next (RES, LASTERR, STICKY) and the response. -/
structure ExecOutcome where
  res : Bus
  lastErr : ErrCode
  sticky : Bool
  rspRes : Bus
  rspErr : ErrCode
deriving DecidableEq, Repr

/-- The state of FXP64, and the environment of its coming edges. -/
structure State where
  /-- RES, the result register (R30). -/
  res : Bus
  /-- STATUS.LASTERR, the code of the last command (R40). -/
  lastErr : ErrCode
  /-- STATUS.STICKY, set by every failing command (R40). -/
  sticky : Bool
  /-- The phase (R44). -/
  phase : Phase
  /-- CW, the command word accepted (R44). -/
  cw : CmdWord
  /-- Operand A latched at acceptance, after source selection (R44). -/
  opA : Bus
  /-- Operand B latched at acceptance, after source selection (R44). -/
  opB : Bus
  /-- The outcome of `Exec` computed at acceptance (R44, R51). -/
  outcome : ExecOutcome
  /-- The number of cycles left in BUSY (R44). -/
  cnt : Nat
  /-- RSPRES, the response value (R44). -/
  rspRes : Bus
  /-- RSPERR, the response code (R44). -/
  rspErr : ErrCode
  /-- MODEL'S OWN: what the host drives on the input ports at the coming edges, the next edge first (assumption 2). -/
  host : List Ports
  /-- MODEL'S OWN: the latencies drawn for the coming commands, the next accepted first, each read as a value in
  `[1, LAT_MAX]` (assumption 3). -/
  draws : List Nat
  /-- MODEL'S OWN: how many edges have passed; it numbers the free values (assumption 15). -/
  edges : Nat
deriving DecidableEq, Repr

/-- The value a latched outcome has at reset (R48 leaves it unspecified and never observable). DESIGN CHOICE: assumption 6,
unsafe. -/
def ExecOutcome.none : ExecOutcome := { res := 0, lastErr := 0, sticky := false, rspRes := 0, rspErr := 0 }

/-- FXP64 right after a reset edge (R48). The latches of R44, whose reset value R48 leaves unspecified, are 0 (DESIGN CHOICE:
assumption 6, unsafe); the model's own fields are empty (DESIGN CHOICE: assumption 15). -/
def State.reset : State where
  res := 0
  lastErr := 0
  sticky := false
  phase := .idle
  cw := 0
  opA := 0
  opB := 0
  outcome := ExecOutcome.none
  cnt := 0
  rspRes := 0
  rspErr := 0
  host := []
  draws := []
  edges := 0

end Sys2Proof.Machine
end

