-- ==== Sys2Proof/Machine/Flags.lean ====
section
/-! DEFINITION. The error codes (R240) and the STATUS register (R40): how it reads and the three ways a command writes it. -/

namespace Sys2Proof.Machine

/-- The code of an error kind (R240). -/
def ErrorKind.code : ErrorKind → ErrCode
  | .rangeError => 1#3
  | .overflowError => 2#3
  | .divisionByZero => 3#3
  | .domainError => 4#3
  | .illegalCommand => 5#3

/-- STATUS as one word: STICKY at bit 3, LASTERR at bits 2:0 (R40). -/
def State.status (s : State) : StatusWord := BitVec.ofBool s.sticky ++ s.lastErr

/-- The status write of a command that succeeds: LASTERR 0, STICKY unchanged (R37, R38). -/
def State.noteSuccess (s : State) : State := { s with lastErr := 0#3 }

/-- The status write of a command that fails: LASTERR its code, STICKY 1 (R39). -/
def State.noteFailure (s : State) (e : ErrorKind) : State := { s with lastErr := e.code, sticky := true }

/-- CLRST's own status write (R223). -/
def State.clearSticky (s : State) : State := { s with sticky := false }

end Sys2Proof.Machine
end

