-- ==== Sys2Proof/Machine/Ops.lean ====
section
/-! DEFINITION. The named operations of the block: reading the ports, the three endings of a command (R37 to R39), among
them reporting an error, which stands where other hardware takes an exception (R249), and the outputs (R22). -/

namespace Sys2Proof.Machine

/-- The values on the input ports at the next edge: what the state lists, and past that what the host drives, which is free
(R55, assumption 2). -/
def State.ports (s : State) : Ports :=
  match s.host with
  | p :: _ => p
  | [] => Config.hostPorts s.edges

/-- `commit(v)` (R37): the command succeeded with result integer `v`. -/
def State.commit (s : State) (v : Int) : State :=
  { s.noteSuccess with res := BitVec.ofInt 256 v, rspRes := BitVec.ofInt 256 v, rspErr := 0#3 }

/-- `commit_none` (R38): the command succeeded without a value. -/
def State.commitNone (s : State) : State :=
  { s.noteSuccess with rspRes := s.res, rspErr := 0#3 }

/-- `raise E` (R39): the command failed. RES is unchanged, and control goes nowhere (R249). -/
def State.raise (s : State) (e : ErrorKind) : State :=
  { s.noteFailure e with rspRes := 0#256, rspErr := e.code }

/-- The ending of a command whose rule gives a value or an error kind (R17). -/
def State.finish (s : State) : Except ErrorKind Int → State
  | .ok v => s.commit v
  | .error e => s.raise e

/-- `cmd_ready` (R22). -/
def State.cmdReady (s : State) : Bool := s.phase == .idle

/-- `rsp_valid` (R22). -/
def State.rspValid (s : State) : Bool := s.phase == .resp

/-- `rsp_res` (R22). -/
def State.rspResOut (s : State) : Bus := s.rspRes

/-- `rsp_err` (R22). -/
def State.rspErrOut (s : State) : ErrCode := s.rspErr

/-- `res_q` (R22). -/
def State.resQ (s : State) : Bus := s.res

/-- `status_q` (R22). -/
def State.statusQ (s : State) : StatusWord := s.status

end Sys2Proof.Machine
end

