-- ==== Sys2Proof/Machine/Operands.lean ====
section
/-! DEFINITION. The operands: source selection (R34) and how a field of an operand is read as an integer (R33, R75). -/

namespace Sys2Proof.Machine

/-- Operand A after source selection (R34). -/
def State.operandA (s : State) : Src → Bus
  | .bus => s.ports.a
  | .res => s.res

/-- Operand B after source selection (R34). -/
def State.operandB (s : State) : Src → Bus
  | .bus => s.ports.b
  | .res => s.res

/-- The integer that an operand of a type denotes; the bits above the type's field are ignored (R33, R75). No command reads
an `int64`: it is a result type only. -/
def readAs (t : ValueType) (v : Bus) : Int :=
  match t with
  | .fixed => (v.extractLsb' 0 128).toInt
  | .int64 => (v.extractLsb' 0 64).toInt
  | .int128 => (v.extractLsb' 0 128).toInt
  | .int256 => v.toInt
  | .uint64 => ((v.extractLsb' 0 64).toNat : Int)
  | .uint256 => (v.toNat : Int)

end Sys2Proof.Machine
end

