-- ==== Sys2Proof/Machine/Arith.lean ====
section
/-! DEFINITION. The number format (R12) and the primitives on unbounded integers (R16). -/

namespace Sys2Proof.Machine

/-- `ONE`, the 64.64 value 1 (R12). -/
def fxOne : Int := 2 ^ 64

/-- `MIN` (R12). -/
def fxMin : Int := -2 ^ 127

/-- `MAX` (R12). -/
def fxMax : Int := 2 ^ 127 - 1

/-- `inrange64x64(v)` (R16). -/
abbrev inRange64x64 (v : Int) : Prop := fxMin ≤ v ∧ v ≤ fxMax

/-- `fdiv(a, b)`: the floor of the quotient (R16). -/
def fdiv (a b : Int) : Int := Int.fdiv a b

/-- `tdiv(a, b)`: the quotient truncated toward zero (R16). -/
def tdiv (a b : Int) : Int := Int.tdiv a b

/-- `a << k` (R16). -/
def shl (a : Int) (k : Nat) : Int := a * 2 ^ k

/-- `a >> k`, the floor of `a / 2^k` (R16). -/
def sar (a : Int) (k : Nat) : Int := fdiv a (2 ^ k)

/-- `x & y & 1` (R16): 1 when both integers are odd. -/
def bothOdd (x y : Int) : Int := if x % 2 = 1 ∧ y % 2 = 1 then 1 else 0

/-- `bitlen(x)` for `x > 0` (R16). -/
def bitlen (x : Nat) : Nat := Nat.log2 x + 1

/-- The square root found one bit at a time: `r` is a root so far whose bits below `k` are still 0. -/
def isqrtFrom (n : Nat) : Nat → Nat → Nat
  | 0, r => r
  | k + 1, r => if (r + 2 ^ k) * (r + 2 ^ k) ≤ n then isqrtFrom n k (r + 2 ^ k) else isqrtFrom n k r

/-- `isqrt(n)`: the largest `r` with `r * r <= n` (R16). A root has no more bits than `n`. -/
def isqrt (n : Nat) : Nat := isqrtFrom n (bitlen n) 0

end Sys2Proof.Machine
end

