-- ==== Sys2Proof/Machine/Rom.lean ====
section
/-! DEFINITION. The constant ROM (R42) and the multipliers of EXP2 (R187). Read-only and not touched by reset. -/

namespace Sys2Proof.Machine

/-- `E_64x64` (R42): the floor of `e * 2^64`. -/
def fxE : Int := 50143449209799256682

/-- `PI_64x64` (R42): the floor of `pi * 2^64`. -/
def fxPi : Int := 57952155664616982739

/-- `LN2_64x64` (R42): the floor of `ln(2) * 2^64`. -/
def fxLn2 : Int := 12786308645202655659

/-- `LOG2E_64x64` (R42): the floor of `log2(e) * 2^64`. -/
def fxLog2e : Int := 26613026195688644983

/-- The ROM entries LDC can read (R42, R222); there is none above index 4. -/
def rom (k : BitVec 8) : Option Int :=
  match k.toNat with
  | 0 => some fxOne
  | 1 => some fxMin
  | 2 => some fxMax
  | 3 => some fxE
  | 4 => some fxPi
  | _ => none

/-- The default `EXP2_TABLE` (R187), `T[1]` first. The table is a parameter of the spec (R11) and an argument of the core of
EXP2; the commands EXP2 and EXP use this one (assumption 5). -/
def exp2Multipliers : List Nat :=
  [0x16A09E667F3BCC908B2FB1366EA957D3E, 0x1306FE0A31B7152DE8D5A46305C85EDEC, 0x1172B83C7D517ADCDF7C8C50EB14A7920,
    0x10B5586CF9890F6298B92B71842A98364, 0x1059B0D31585743AE7C548EB68CA417FE, 0x102C9A3E778060EE6F7CACA4F7A29BDE9,
    0x10163DA9FB33356D84A66AE336DCDFA40, 0x100B1AFA5ABCBED6129AB13EC11DC9544]
  ++ [0x10058C86DA1C09EA1FF19D294CF2F679C, 0x1002C605E2E8CEC506D21BFC89A23A010, 0x100162F3904051FA128BCA9C55C31E5E0,
    0x1000B175EFFDC76BA38E31671CA939726, 0x100058BA01FB9F96D6CACD4B180917C3E, 0x10002C5CC37DA9491D0985C348C68E7B3,
    0x1000162E525EE054754457D5995292026, 0x10000B17255775C040618BF4A4ADE83FC]
  ++ [0x1000058B91B5BC9AE2EED81E9B7D4CFAC, 0x100002C5C89D5EC6CA4D7C8ACC017B7C9, 0x10000162E43F4F831060E02D839A9D16D,
    0x100000B1721BCFC99D9F890EA06911763, 0x10000058B90CF1E6D97F9CA14DBCC1628, 0x1000002C5C863B73F016468F6BAC5CA2C,
    0x100000162E430E5A18F6119E3C02282A5, 0x1000000B1721835514B86E6D96EFD1BFF]
  ++ [0x100000058B90C0B48C6BE5DF846C5B2F0, 0x10000002C5C8601CC6B9E94213C72737A, 0x1000000162E42FFF037DF38AA2B219F06,
    0x10000000B17217FBA9C739AA5819F44F9, 0x1000000058B90BFCDEE5ACD3C1CEDC823, 0x100000002C5C85FE31F35A6A30DA1BE50,
    0x10000000162E42FF0999CE3541B9FFFCF, 0x100000000B17217F80F4EF5AADDA45554]
  ++ [0x10000000058B90BFBF8479BD5A81B51AD, 0x1000000002C5C85FDF84BD62AE30A74CC, 0x100000000162E42FEFB2FED257559BDAA,
    0x1000000000B17217F7D5A7716BBA4A9AF, 0x100000000058B90BFBE9DDBAC5E109CCF, 0x10000000002C5C85FDF4B15DE6F17EB0D,
    0x1000000000162E42FEFA494F1478FDE05, 0x10000000000B17217F7D20CF927C8E94C]
  ++ [0x1000000000058B90BFBE8F71CB4E4B33E, 0x100000000002C5C85FDF477B662B26945, 0x10000000000162E42FEFA3AE53369388C,
    0x100000000000B17217F7D1D351A389D40, 0x10000000000058B90BFBE8E8B2D3D4EDE, 0x1000000000002C5C85FDF4741BEA6E77F,
    0x100000000000162E42FEFA39FE95583C3, 0x1000000000000B17217F7D1CFB72B45E2]
  ++ [0x100000000000058B90BFBE8E7CC35C3F1, 0x10000000000002C5C85FDF473E242EA38, 0x1000000000000162E42FEFA39F02B772C,
    0x10000000000000B17217F7D1CF7D83C1A, 0x1000000000000058B90BFBE8E7BDCBE2E, 0x100000000000002C5C85FDF473DEA871F,
    0x10000000000000162E42FEFA39EF44D91, 0x100000000000000B17217F7D1CF79E949]
  ++ [0x10000000000000058B90BFBE8E7BCE544, 0x1000000000000002C5C85FDF473DE6ECA, 0x100000000000000162E42FEFA39EF366F,
    0x1000000000000000B17217F7D1CF79AFA, 0x100000000000000058B90BFBE8E7BCD6D, 0x10000000000000002C5C85FDF473DE6B2,
    0x1000000000000000162E42FEFA39EF358, 0x10000000000000000B17217F7D1CF79AC]

/-- `T[k]` for `k` from 1 to 64 (R187). -/
def exp2Table (k : Nat) : Nat := exp2Multipliers.getD (k - 1) 0

end Sys2Proof.Machine
end

