-- ==== Sys2Proof/Machine/Control.lean ====
section
/-! DEFINITION. The control commands (44_control.md). -/

namespace Sys2Proof.Machine

/-- NOP (R220). -/
def execNop (s : State) : Host.Outcome State Fault Refusal :=
  .next s.commitNone

/-- MOV (R221). -/
def execMov (sa : Src) (s : State) : Host.Outcome State Fault Refusal :=
  .next (s.commit (readAs .uint256 (s.operandA sa)))

/-- LDC (R222). An index above 4 makes the word illegal, and the command then raises IllegalCommand as every illegal word does
(R77, R245; assumption 9). -/
def execLdc (k : BitVec 8) (s : State) : Host.Outcome State Fault Refusal :=
  .next (match rom k with
    | some v => s.commit v
    | none => s.raise .illegalCommand)

/-- CLRST (R223). -/
def execClrst (s : State) : Host.Outcome State Fault Refusal :=
  .next s.clearSticky.commitNone

end Sys2Proof.Machine
end

