-- ==== Sys2Proof/Machine/Conversions.lean ====
section
/-! DEFINITION. The conversions (40_conversions.md): each rule as a function of its operands, and the meaning over it. -/

namespace Sys2Proof.Machine

/-- R100. -/
def fromIntRule (n : Int) : Except ErrorKind Int :=
  if n < -2 ^ 63 ∨ 2 ^ 63 - 1 < n then .error .rangeError else .ok (shl n 64)

/-- R101. -/
def toIntRule (x : Int) : Except ErrorKind Int := .ok (sar x 64)

/-- R102. -/
def fromUintRule (n : Int) : Except ErrorKind Int :=
  if 2 ^ 63 ≤ n then .error .rangeError else .ok (shl n 64)

/-- R103. -/
def toUintRule (x : Int) : Except ErrorKind Int :=
  if x < 0 then .error .rangeError else .ok (sar x 64)

/-- R104. -/
def from128Rule (v : Int) : Except ErrorKind Int :=
  if inRange64x64 (sar v 64) then .ok (sar v 64) else .error .rangeError

/-- R105. -/
def to128Rule (x : Int) : Except ErrorKind Int := .ok (shl x 64)

/-- `pow10(d)` (R106). -/
def pow10 (d : Nat) : Except ErrorKind Int :=
  if 78 ≤ d then .error .overflowError else .ok ((10 ^ d : Nat) : Int)

/-- R107. -/
def fromDecRule (n : Int) (d : Nat) : Except ErrorKind Int :=
  match pow10 d with
  | .error e => .error e
  | .ok p => if fxMax < fdiv (shl n 64) p then .error .rangeError else .ok (fdiv (shl n 64) p)

/-- R108. -/
def toDecRule (x : Int) (d : Nat) : Except ErrorKind Int :=
  if x < 0 then .error .rangeError
  else match pow10 d with
    | .error e => .error e
    | .ok p => if 2 ^ 256 ≤ x * p then .error .overflowError else .ok (sar (x * p) 64)

/-- FROMINT (R100). -/
def execFromint (sa : Src) (s : State) : Host.Outcome State Fault Refusal :=
  .next (s.finish (fromIntRule (readAs .int128 (s.operandA sa))))

/-- TOINT (R101). -/
def execToint (sa : Src) (s : State) : Host.Outcome State Fault Refusal :=
  .next (s.finish (toIntRule (readAs .fixed (s.operandA sa))))

/-- FROMUINT (R102). -/
def execFromuint (sa : Src) (s : State) : Host.Outcome State Fault Refusal :=
  .next (s.finish (fromUintRule (readAs .uint64 (s.operandA sa))))

/-- TOUINT (R103). -/
def execTouint (sa : Src) (s : State) : Host.Outcome State Fault Refusal :=
  .next (s.finish (toUintRule (readAs .fixed (s.operandA sa))))

/-- FROM128 (R104). -/
def execFrom128 (sa : Src) (s : State) : Host.Outcome State Fault Refusal :=
  .next (s.finish (from128Rule (readAs .int256 (s.operandA sa))))

/-- TO128 (R105). -/
def execTo128 (sa : Src) (s : State) : Host.Outcome State Fault Refusal :=
  .next (s.finish (to128Rule (readAs .fixed (s.operandA sa))))

/-- FROMDEC (R107). -/
def execFromdec (sa : Src) (d : BitVec 8) (s : State) : Host.Outcome State Fault Refusal :=
  .next (s.finish (fromDecRule (readAs .uint256 (s.operandA sa)) d.toNat))

/-- TODEC (R108). -/
def execTodec (sa : Src) (d : BitVec 8) (s : State) : Host.Outcome State Fault Refusal :=
  .next (s.finish (toDecRule (readAs .fixed (s.operandA sa)) d.toNat))

end Sys2Proof.Machine
end

