-- ==== Sys2Proof/Machine/Linear.lean ====
section
/-! DEFINITION. Linear arithmetic (41_linear.md): each rule as a function of its operands, and the meaning over it. -/

namespace Sys2Proof.Machine

/-- R130. -/
def addRule (x y : Int) : Except ErrorKind Int :=
  if inRange64x64 (x + y) then .ok (x + y) else .error .overflowError

/-- R131. -/
def subRule (x y : Int) : Except ErrorKind Int :=
  if inRange64x64 (x - y) then .ok (x - y) else .error .overflowError

/-- R132. -/
def negRule (x : Int) : Except ErrorKind Int :=
  if x = fxMin then .error .overflowError else .ok (-x)

/-- R133. -/
def absRule (x : Int) : Except ErrorKind Int :=
  if 0 ≤ x then .ok x
  else if x = fxMin then .error .overflowError
  else .ok (-x)

/-- R134. -/
def avgRule (x y : Int) : Except ErrorKind Int := .ok (sar x 1 + sar y 1 + bothOdd x y)

/-- ADD (R130). -/
def execAdd (sa sb : Src) (s : State) : Host.Outcome State Fault Refusal :=
  .next (s.finish (addRule (readAs .fixed (s.operandA sa)) (readAs .fixed (s.operandB sb))))

/-- SUB (R131). -/
def execSub (sa sb : Src) (s : State) : Host.Outcome State Fault Refusal :=
  .next (s.finish (subRule (readAs .fixed (s.operandA sa)) (readAs .fixed (s.operandB sb))))

/-- NEG (R132). -/
def execNeg (sa : Src) (s : State) : Host.Outcome State Fault Refusal :=
  .next (s.finish (negRule (readAs .fixed (s.operandA sa))))

/-- ABS (R133). -/
def execAbs (sa : Src) (s : State) : Host.Outcome State Fault Refusal :=
  .next (s.finish (absRule (readAs .fixed (s.operandA sa))))

/-- AVG (R134). -/
def execAvg (sa sb : Src) (s : State) : Host.Outcome State Fault Refusal :=
  .next (s.finish (avgRule (readAs .fixed (s.operandA sa)) (readAs .fixed (s.operandB sb))))

end Sys2Proof.Machine
end

