-- ==== Sys2Proof/Machine/Multiplicative.lean ====
section
/-! DEFINITION. Multiplicative arithmetic (42_multiplicative.md): each rule as a function of its operands, and the meaning
over it. -/

namespace Sys2Proof.Machine

/-- A 64.64 result that overflows outside the format, as the checks of R150, R154, R155 and R157 have it. -/
def narrow (r : Int) : Except ErrorKind Int :=
  if inRange64x64 r then .ok r else .error .overflowError

/-- `mul64(p, q)` (R150). -/
def mul64 (p q : Int) : Except ErrorKind Int := narrow (tdiv (p * q) (2 ^ 64))

/-- R151. -/
def mulRule (x y : Int) : Except ErrorKind Int := mul64 x y

/-- R152: the unshifted product must be an int256. -/
def muliRule (x n : Int) : Except ErrorKind Int :=
  if x * n < -2 ^ 255 ∨ 2 ^ 255 - 1 < x * n then .error .overflowError else .ok (tdiv (x * n) (2 ^ 64))

/-- R153: the sign is tested first, then the unshifted product. -/
def muluRule (x n : Int) : Except ErrorKind Int :=
  if x < 0 then .error .rangeError
  else if 2 ^ 256 ≤ x * n then .error .overflowError
  else .ok (sar (x * n) 64)

/-- R154. -/
def divRule (x y : Int) : Except ErrorKind Int :=
  if y = 0 then .error .divisionByZero else narrow (tdiv (shl x 64) y)

/-- R155. -/
def diviRule (x y : Int) : Except ErrorKind Int :=
  if y = 0 then .error .divisionByZero else narrow (tdiv (shl x 64) y)

/-- R156. -/
def divuRule (x y : Int) : Except ErrorKind Int :=
  if y = 0 then .error .divisionByZero
  else if fxMax < fdiv (shl x 64) y then .error .overflowError
  else .ok (fdiv (shl x 64) y)

/-- R157. -/
def invRule (x : Int) : Except ErrorKind Int :=
  if x = 0 then .error .divisionByZero else narrow (tdiv (2 ^ 128) x)

/-- MUL (R151). -/
def execMul (sa sb : Src) (s : State) : Host.Outcome State Fault Refusal :=
  .next (s.finish (mulRule (readAs .fixed (s.operandA sa)) (readAs .fixed (s.operandB sb))))

/-- MULI (R152). -/
def execMuli (sa sb : Src) (s : State) : Host.Outcome State Fault Refusal :=
  .next (s.finish (muliRule (readAs .fixed (s.operandA sa)) (readAs .int256 (s.operandB sb))))

/-- MULU (R153). -/
def execMulu (sa sb : Src) (s : State) : Host.Outcome State Fault Refusal :=
  .next (s.finish (muluRule (readAs .fixed (s.operandA sa)) (readAs .uint256 (s.operandB sb))))

/-- DIV (R154). -/
def execDiv (sa sb : Src) (s : State) : Host.Outcome State Fault Refusal :=
  .next (s.finish (divRule (readAs .fixed (s.operandA sa)) (readAs .fixed (s.operandB sb))))

/-- DIVI (R155). -/
def execDivi (sa sb : Src) (s : State) : Host.Outcome State Fault Refusal :=
  .next (s.finish (diviRule (readAs .int256 (s.operandA sa)) (readAs .int256 (s.operandB sb))))

/-- DIVU (R156). -/
def execDivu (sa sb : Src) (s : State) : Host.Outcome State Fault Refusal :=
  .next (s.finish (divuRule (readAs .uint256 (s.operandA sa)) (readAs .uint256 (s.operandB sb))))

/-- INV (R157). -/
def execInv (sa : Src) (s : State) : Host.Outcome State Fault Refusal :=
  .next (s.finish (invRule (readAs .fixed (s.operandA sa))))

end Sys2Proof.Machine
end

