-- ==== Sys2Proof/Machine/Transcendental.lean ====
section
/-! DEFINITION. The square-root, power, logarithm and exponential units (43_transcendental.md). -/

namespace Sys2Proof.Machine

/-- R180. -/
def gavgRule (x y : Int) : Except ErrorKind Int :=
  if x * y < 0 then .error .domainError
  else narrow ((isqrt (x * y).toNat : Nat) : Int)

/-- The loop of R181, square and multiply from the exponent's least significant bit. The first argument bounds the number of
rounds: an exponent `e` takes as many as it has bits. -/
def powLoop : Nat → Int → Int → Nat → Except ErrorKind Int
  | 0, acc, _, _ => .ok acc
  | k + 1, acc, b, e =>
    if e = 0 then .ok acc
    else
      match (if e % 2 = 1 then mul64 acc b else .ok acc) with
      | .error err => .error err
      | .ok acc' =>
        if e / 2 = 0 then .ok acc'
        else
          match mul64 b b with
          | .error err => .error err
          | .ok b' => powLoop k acc' b' (e / 2)

/-- R181. The exponent is a uint256, so 256 rounds are enough. -/
def powRule (x n : Int) : Except ErrorKind Int := powLoop 256 fxOne x n.toNat

/-- R182. -/
def sqrtRule (x : Int) : Except ErrorKind Int :=
  if x < 0 then .error .domainError else .ok ((isqrt (shl x 64).toNat : Nat) : Int)

/-- The 64 iterations of R183, the bit of weight `2^(i-64)` for `i` from 63 down to 0: square the mantissa `m`, test bit 255,
renormalise, emit the bit into `r`. -/
def log2Loop : Nat → Nat → Int → Int
  | 0, _, r => r
  | i + 1, m, r =>
    let sq := m * m
    let b := sq >>> 255
    log2Loop i (sq >>> (127 + b)) (r + ((b <<< i : Nat) : Int))

/-- `log2core(x)` for `x > 0` (R183). -/
def log2core (x : Nat) : Int :=
  let msb := bitlen x - 1
  log2Loop 64 (x <<< (127 - msb)) (shl ((msb : Int) - 64) 64)

/-- R184. -/
def log2Rule (x : Int) : Except ErrorKind Int :=
  if x ≤ 0 then .error .domainError else .ok (log2core x.toNat)

/-- R185. -/
def lnRule (x : Int) : Except ErrorKind Int :=
  if x ≤ 0 then .error .domainError else .ok (tdiv (log2core x.toNat * fxLn2) (2 ^ 64))

/-- The 64 steps of R186 with the table `T`, over the fractional bits `frac`. The first argument is the number of steps left:
with `j + 1` left the step is `k = 64 - j`, and its fractional bit is bit `j`. -/
def exp2Steps (T : Nat → Nat) (frac : Nat) : Nat → Nat → Nat
  | 0, r => r
  | j + 1, r => exp2Steps T frac j (if frac.testBit j then (r * T (64 - j)) >>> 128 else r)

/-- `exp2core(x)` with the table `T` (R186). The fractional bits are the low 64 bits of the two's-complement `x`. -/
def exp2core (T : Nat → Nat) (x : Int) : Except ErrorKind Int :=
  if 64 * fxOne ≤ x then .error .overflowError
  else if x < -64 * fxOne then .ok 0
  else
    let r := exp2Steps T (x % 2 ^ 64).toNat 64 (2 ^ 127)
    narrow ((r >>> (63 - sar x 64).toNat : Nat) : Int)

/-- R188. -/
def exp2Rule (T : Nat → Nat) (x : Int) : Except ErrorKind Int := exp2core T x

/-- R189. -/
def expRule (T : Nat → Nat) (x : Int) : Except ErrorKind Int :=
  if 64 * fxOne ≤ x then .error .overflowError
  else if x < -64 * fxOne then .ok 0
  else exp2core T (tdiv (x * fxLog2e) (2 ^ 64))

/-- GAVG (R180). -/
def execGavg (sa sb : Src) (s : State) : Host.Outcome State Fault Refusal :=
  .next (s.finish (gavgRule (readAs .fixed (s.operandA sa)) (readAs .fixed (s.operandB sb))))

/-- POW (R181). -/
def execPow (sa sb : Src) (s : State) : Host.Outcome State Fault Refusal :=
  .next (s.finish (powRule (readAs .fixed (s.operandA sa)) (readAs .uint256 (s.operandB sb))))

/-- SQRT (R182). -/
def execSqrt (sa : Src) (s : State) : Host.Outcome State Fault Refusal :=
  .next (s.finish (sqrtRule (readAs .fixed (s.operandA sa))))

/-- LOG2 (R184). -/
def execLog2 (sa : Src) (s : State) : Host.Outcome State Fault Refusal :=
  .next (s.finish (log2Rule (readAs .fixed (s.operandA sa))))

/-- LN (R185). -/
def execLn (sa : Src) (s : State) : Host.Outcome State Fault Refusal :=
  .next (s.finish (lnRule (readAs .fixed (s.operandA sa))))

/-- EXP2 (R188). -/
def execExp2 (sa : Src) (s : State) : Host.Outcome State Fault Refusal :=
  .next (s.finish (exp2Rule exp2Table (readAs .fixed (s.operandA sa))))

/-- EXP (R189). -/
def execExp (sa : Src) (s : State) : Host.Outcome State Fault Refusal :=
  .next (s.finish (expRule exp2Table (readAs .fixed (s.operandA sa))))

end Sys2Proof.Machine
end

