-- ==== Sys2Proof/Machine/Dispatch.lean ====
section
/-! DEFINITION. The effect of one command, which the spec calls Exec (R47): one arm per command, each one call of its meaning. -/

namespace Sys2Proof.Machine

def exec (i : Instr) (s : State) : Host.Outcome State Fault Refusal :=
  match i with
  | .nop => Sys2Proof.Machine.execNop s
  | .fromint sa => Sys2Proof.Machine.execFromint sa s
  | .toint sa => Sys2Proof.Machine.execToint sa s
  | .fromuint sa => Sys2Proof.Machine.execFromuint sa s
  | .touint sa => Sys2Proof.Machine.execTouint sa s
  | .from128 sa => Sys2Proof.Machine.execFrom128 sa s
  | .to128 sa => Sys2Proof.Machine.execTo128 sa s
  | .fromdec sa d => Sys2Proof.Machine.execFromdec sa d s
  | .todec sa d => Sys2Proof.Machine.execTodec sa d s
  | .add sa sb => Sys2Proof.Machine.execAdd sa sb s
  | .sub sa sb => Sys2Proof.Machine.execSub sa sb s
  | .neg sa => Sys2Proof.Machine.execNeg sa s
  | .abs sa => Sys2Proof.Machine.execAbs sa s
  | .avg sa sb => Sys2Proof.Machine.execAvg sa sb s
  | .mul sa sb => Sys2Proof.Machine.execMul sa sb s
  | .muli sa sb => Sys2Proof.Machine.execMuli sa sb s
  | .mulu sa sb => Sys2Proof.Machine.execMulu sa sb s
  | .div sa sb => Sys2Proof.Machine.execDiv sa sb s
  | .divi sa sb => Sys2Proof.Machine.execDivi sa sb s
  | .divu sa sb => Sys2Proof.Machine.execDivu sa sb s
  | .inv sa => Sys2Proof.Machine.execInv sa s
  | .gavg sa sb => Sys2Proof.Machine.execGavg sa sb s
  | .pow sa sb => Sys2Proof.Machine.execPow sa sb s
  | .sqrt sa => Sys2Proof.Machine.execSqrt sa s
  | .log2 sa => Sys2Proof.Machine.execLog2 sa s
  | .ln sa => Sys2Proof.Machine.execLn sa s
  | .exp2 sa => Sys2Proof.Machine.execExp2 sa s
  | .exp sa => Sys2Proof.Machine.execExp sa s
  | .mov sa => Sys2Proof.Machine.execMov sa s
  | .ldc k => Sys2Proof.Machine.execLdc k s
  | .clrst => Sys2Proof.Machine.execClrst s

end Sys2Proof.Machine
end

