-- ==== Sys2Proof/Machine/Handshake.lean ====
section
/-! DEFINITION. The command and response handshake, one rising edge of `clk` at a time (R51 to R54, R270): everything that
the step does around `exec`. -/

namespace Sys2Proof.Machine

/-- The outcome that `Exec` gives (R47), read off the state after the command's effects. -/
def State.outcomeOf (t : State) : ExecOutcome :=
  { res := t.res, lastErr := t.lastErr, sticky := t.sticky, rspRes := t.rspRes, rspErr := t.rspErr }

/-- `Exec` on the word at the port `cmd` (R47): IllegalCommand where the word is no command, else the command's effect. -/
def State.execWord (s : State) : Host.Outcome State Fault Refusal :=
  match decode s.ports.cmd with
  | .error _ => .next (s.raise .illegalCommand)
  | .ok i => exec i s

/-- Operand A as latched at acceptance: selected by bit 6 of the word (R34, R51; assumption 8). -/
def State.selectedA (s : State) : Bus := s.operandA (srcOfBit (saField s.ports.cmd))

/-- Operand B as latched at acceptance: selected by bit 7 of the word (R34, R51; assumption 8). -/
def State.selectedB (s : State) : Bus := s.operandB (srcOfBit (sbField s.ports.cmd))

/-- The latency drawn for the command accepted at this edge (R9), in `[1, LAT_MAX]` (R10): the one the state lists, brought
into the range where it lies outside, and past the list a free value in the range (assumption 3). -/
def State.latency (s : State) : Nat :=
  match s.draws with
  | d :: _ => min (max d 1) Config.latMax
  | [] => 1 + Config.latDraw s.edges s.ports.cmd s.selectedA s.selectedB % Config.latMax

/-- An edge passes in the environment: the next edge has its own port values. -/
def State.tick (s : State) : State := { s with host := s.host.tail, edges := s.edges + 1 }

/-- What acceptance latches (R51), given the state `t` that the command's effects lead to. RES and STATUS stay. -/
def State.latch (s t : State) : State :=
  { s with
    phase := .busy
    cw := s.ports.cmd
    opA := s.selectedA
    opB := s.selectedB
    outcome := t.outcomeOf
    cnt := s.latency
    draws := s.draws.tail }

/-- Acceptance (R51). -/
def State.acceptEdge (s : State) : Host.Outcome State Fault Refusal :=
  match s.execWord with
  | .next t => .next (s.latch t).tick
  | .fault r => .fault r
  | .refused r => .refused r

/-- The effects of the latched outcome are applied and the response is held (R52). The command is not stored any longer (R45):
its latches take their reset value (assumption 7). -/
def State.complete (s : State) : State :=
  { s with
    res := s.outcome.res
    lastErr := s.outcome.lastErr
    sticky := s.outcome.sticky
    rspRes := s.outcome.rspRes
    rspErr := s.outcome.rspErr
    phase := .resp
    cw := 0
    opA := 0
    opB := 0
    outcome := ExecOutcome.none
    cnt := 0 }

/-- One edge in BUSY (R52). DESIGN CHOICE (assumption 21, unsafe): BUSY with `cnt = 0`, which only the unspecified state before
the first reset can hold (R273), completes at this edge, since `cnt` is a natural number and `0 - 1` is 0. -/
def State.countDown (s : State) : State :=
  if s.cnt - 1 = 0 then s.complete else { s with cnt := s.cnt - 1 }

/-- The response is consumed (R53). -/
def State.consume (s : State) : State :=
  { s with phase := .idle, rspRes := 0, rspErr := 0 }

/-- A reset edge (R270): every piece of state takes its reset value, whatever the phase. What the host drives and what
latencies will be drawn is not FXP64's to reset. -/
def State.resetBlock (s : State) : State :=
  { s with
    res := 0
    lastErr := 0
    sticky := false
    phase := .idle
    cw := 0
    opA := 0
    opB := 0
    outcome := ExecOutcome.none
    cnt := 0
    rspRes := 0
    rspErr := 0 }

/-- One rising edge of `clk`: reset wins (R270, R271), else the phase decides (R51 to R54). DESIGN CHOICE (assumption 22,
unsafe): an edge without reset before the first reset edge, of which no rule speaks (R273), is stepped by the same rules. -/
def State.clockEdge (s : State) : Host.Outcome State Fault Refusal :=
  if s.ports.rst then .next s.resetBlock.tick
  else match s.phase with
    | .idle => if s.ports.cmdValid then s.acceptEdge else .next s.tick
    | .busy => .next s.countDown.tick
    | .resp => if s.ports.rspReady then .next s.consume.tick else .next s.tick

/-- Port values that present nothing and consume nothing. -/
def quietPorts : Ports := { rst := false, cmdValid := false, cmd := 0, a := 0, b := 0, rspReady := false }

/-- The state in which the next edge accepts the given word: FXP64 waits in IDLE with no response held (R22), and the host
presents the word at that edge. The bus values are those the state lists for the edge, and 0 where it lists none
(assumption 10). -/
def State.placeCommand (s : State) (w : CmdWord) : State :=
  { s with
    phase := .idle
    rspRes := 0
    rspErr := 0
    host := { s.host.headD quietPorts with rst := false, cmdValid := true, cmd := w } :: s.host.tail }

end Sys2Proof.Machine
end

