-- ==== Sys2Proof/Machine/Step.lean ====
section
/-! DEFINITION. The step: one rising edge of `clk` (R20, R21). -/

namespace Sys2Proof.Machine

/-- One step of FXP64 is one rising edge. In IDLE with a command presented it decodes the word at the ports and runs it. -/
def step (s : State) : Host.Outcome State Fault Refusal := s.clockEdge

/-- The state whose next step accepts and runs the word numbered as spec/opcode_table.json numbers it; a command has 32 bits,
so bits the table leaves out are 0. -/
def State.withFetchWord (s : State) (_nbits w : Nat) : State := s.placeCommand (BitVec.ofNat 32 w)

end Sys2Proof.Machine
end

