-- ==== Sys2Proof/Machine/Assembly.lean ====
section
/-! DEFINITION. The assembly form (R82) and the pseudo-instructions (R83), as the parts of a line and as text (assumption 20). -/

namespace Sys2Proof.Machine

/-- The parts of a line `MNEMONIC [srcA][, srcB][, #imm]` (R82). -/
structure AsmLine where
  mnemonic : String
  srcA : Option Src
  srcB : Option Src
  imm : Option (BitVec 8)
deriving DecidableEq, Repr

/-- A command's line: exactly the operands its row reads, in that order (R82). -/
def asmOf (i : Instr) : AsmLine :=
  { mnemonic := i.row.mnemonic
    srcA := i.row.operandA.map (fun _ => srcOfBit i.saBit)
    srcB := i.row.operandB.map (fun _ => srcOfBit i.sbBit)
    imm := if i.row.imm = .mustBeZero then none else some i.immByte }

/-- A line's word, its mnemonic given in capitals: the fields of the row with that mnemonic, or of a pseudo-instruction's
expansion (R82, R83). `none` where the operands are not exactly those the row reads. -/
def assembleUpper (l : AsmLine) : Option CmdWord :=
  match l.mnemonic, l.srcA, l.srcB, l.imm with
  | "FROMWEI", some sa, none, none => some (encode (fromwei sa))
  | "TOWEI", some sa, none, none => some (encode (towei sa))
  | "LDONE", none, none, none => some (encode ldone)
  | "LDMIN", none, none, none => some (encode ldmin)
  | "LDMAX", none, none, none => some (encode ldmax)
  | "LDE", none, none, none => some (encode lde)
  | "LDPI", none, none, none => some (encode ldpi)
  | m, sa, sb, imm =>
    match opcodeMap.find? (fun r => r.mnemonic == m) with
    | none => none
    | some r =>
      if sa.isSome = r.operandA.isSome ∧ sb.isSome = r.operandB.isSome ∧ (imm.isSome ↔ r.imm ≠ .mustBeZero) then
        some (wordOf (BitVec.ofNat 6 r.op) ((sa.map Src.bit).getD 0#1) ((sb.map Src.bit).getD 0#1) (imm.getD 0#8))
      else none

/-- The assembler: mnemonics are case-insensitive (R82). -/
def assemble (l : AsmLine) : Option CmdWord := assembleUpper { l with mnemonic := l.mnemonic.toUpper }

/-- An operand's text (R82): the bus's letter or `RES`. -/
def srcText (bus : String) : Src → String
  | .bus => bus
  | .res => "RES"

/-- A line as text, its immediate in decimal (R82). -/
def AsmLine.text (l : AsmLine) : String :=
  let parts := (l.srcA.map (srcText "A")).toList ++ (l.srcB.map (srcText "B")).toList
    ++ (l.imm.map (fun d => "#" ++ toString d.toNat)).toList
  if parts.isEmpty then l.mnemonic else l.mnemonic ++ " " ++ String.intercalate ", " parts

end Sys2Proof.Machine
end

