-- ==== Sys2Proof/Machine/Run.lean ====
section
/-! DEFINITION. Runs: edge after edge, and at the transaction level (R47, R59, R278) as the fold of `Exec` over the commands
the host issues. -/

namespace Sys2Proof.Machine

/-- What the host presents in one accepted command (R51): the word and the two bus values. -/
structure Command where
  w : CmdWord
  a : Bus
  b : Bus
deriving DecidableEq, Repr

/-- The port values at the edge that accepts the command. -/
def Command.ports (c : Command) : Ports :=
  { rst := false, cmdValid := true, cmd := c.w, a := c.a, b := c.b, rspReady := false }

/-- `Exec(S, w, a, b)` (R47): its output for the command, in the state. -/
def State.execCommand (s : State) (c : Command) : Host.Outcome State Fault Refusal :=
  State.execWord { s with host := c.ports :: s.host }

/-- The fold of `Exec` (R278): the outcome of each command, first to last, each on the RES and STATUS the one before left. It
ends early only at a fault or a refusal, which `exec` never answers. -/
def execAll : State → List Command → List ExecOutcome
  | _, [] => []
  | s, c :: cs =>
    match s.execCommand c with
    | .next t => t.outcomeOf :: execAll { t with host := s.host } cs
    | .fault _ => []
    | .refused _ => []

/-- The state some edges from now. -/
def runEdges : Nat → State → Host.Outcome State Fault Refusal
  | 0, s => .next s
  | k + 1, s =>
    match step s with
    | .next t => runEdges k t
    | .fault r => .fault r
    | .refused r => .refused r

end Sys2Proof.Machine
end

