-- ==== Sys2Proof/Safety.lean ====
section
/-! DEFINITION. The terms the claims use: what a state must satisfy on every run, and the effects of a command and the
operands it reads, written again from the rules and not from the model's operations. -/

namespace Sys2Proof.Safety

open Sys2Proof.Machine

/-- A response and the STATUS and RES left with it agree: LASTERR is a code that is produced (R40), a failure is sticky (R39),
`rsp_err` is LASTERR, and `rsp_res` is RES on success and 0 on failure (R37 to R39). -/
def Consistent (o : ExecOutcome) : Prop :=
  o.lastErr.toNat ≤ 5 ∧ (o.lastErr ≠ 0 → o.sticky = true) ∧ o.rspErr = o.lastErr ∧
  o.rspRes = if o.lastErr = 0 then o.res else 0

/-- The invariant of the block: STATUS is legal in every phase; the response registers are 0 outside RESP (R22) and agree with
RES and STATUS in RESP; in BUSY at least one cycle is left and the latched outcome is consistent, keeps RES where it
reports an error (R39, R52), and clears a set STICKY only where the word latched is that of CLRST (R40). -/
structure Inv (s : State) : Prop where
  code_legal : s.lastErr.toNat ≤ 5
  failure_sticky : s.lastErr ≠ 0 → s.sticky = true
  no_response : s.phase ≠ .resp → s.rspRes = 0 ∧ s.rspErr = 0
  response : s.phase = .resp → Consistent s.outcomeOf
  busy_count : s.phase = .busy → 1 ≤ s.cnt
  busy_outcome : s.phase = .busy → Consistent s.outcome
  busy_res : s.phase = .busy → s.outcome.lastErr ≠ 0 → s.outcome.res = s.res
  busy_sticky : s.phase = .busy → s.sticky = true → s.outcome.sticky = false → s.cw = 0x00000032

/-- The cycles left in BUSY are within `LAT_MAX` (R10). -/
def Bounded (s : State) : Prop := s.phase = .busy → s.cnt ≤ Config.latMax

/-- The state after a command that succeeds with the integer `v` (R37): RES, LASTERR and the response change, nothing else. -/
def succeeded (s : State) (v : Int) : State :=
  { s with res := BitVec.ofInt 256 v, lastErr := 0, rspRes := BitVec.ofInt 256 v, rspErr := 0 }

/-- The state after a command that fails with the code `c` (R39): LASTERR, STICKY and the response change, nothing else. -/
def failed (s : State) (c : ErrCode) : State :=
  { s with lastErr := c, sticky := true, rspRes := 0, rspErr := c }

/-- Operand A: RES or bus `a` (R34). -/
def srcA (s : State) (sa : Src) : Bus := if sa = .res then s.res else s.ports.a

/-- Operand B: RES or bus `b` (R34). -/
def srcB (s : State) (sb : Src) : Bus := if sb = .res then s.res else s.ports.b

/-- `signed(X[127:0])` (R15): the field as an unsigned number, less `2^128` when its top bit is set. -/
def signed128 (v : Bus) : Int :=
  if v.toNat % 2 ^ 128 < 2 ^ 127 then ((v.toNat % 2 ^ 128 : Nat) : Int) else ((v.toNat % 2 ^ 128 : Nat) : Int) - 2 ^ 128

/-- `signed(X[255:0])` (R15). -/
def signed256 (v : Bus) : Int := if v.toNat < 2 ^ 255 then (v.toNat : Int) else (v.toNat : Int) - 2 ^ 256

/-- `unsigned(X[63:0])` (R15). -/
def unsigned64 (v : Bus) : Int := ((v.toNat % 2 ^ 64 : Nat) : Int)

/-- `unsigned(X[255:0])` (R15). -/
def unsigned256 (v : Bus) : Int := (v.toNat : Int)

/-- A 64.64 value (R12). -/
def Fits (v : Int) : Prop := -2 ^ 127 ≤ v ∧ v ≤ 2 ^ 127 - 1

/-- `a / b` truncated toward zero (R16), by signs and the floor of the magnitudes. -/
def truncDiv (a b : Int) : Int := Int.sign a * Int.sign b * ((a.natAbs / b.natAbs : Nat) : Int)

/-- The word with the opcode, source bits and immediate given (R84) decodes to the command. -/
def Word (op : Nat) (sa sb : Src) (imm : BitVec 8) (i : Instr) : Prop :=
  decode (BitVec.ofNat 32 (op + (if sa = .res then 2 ^ 6 else 0) + (if sb = .res then 2 ^ 7 else 0) + imm.toNat * 2 ^ 8)) = .ok i

/-- The state with other values on the operand buses at the next edge. -/
def withBuses (s : State) (a b : Bus) : State := { s with host := { s.ports with a := a, b := b } :: s.host.tail }

/-- The command, with the integers as its bus operands in two's complement, succeeds with the integer `v`. -/
def Gives (i : Instr) (s : State) (x y v : Int) : Prop :=
  exec i (withBuses s (BitVec.ofInt 256 x) (BitVec.ofInt 256 y))
    = .next (succeeded (withBuses s (BitVec.ofInt 256 x) (BitVec.ofInt 256 y)) v)

/-- The command, with the integers as its bus operands in two's complement, fails with the code `c`. -/
def Fails (i : Instr) (s : State) (x y : Int) (c : ErrCode) : Prop :=
  exec i (withBuses s (BitVec.ofInt 256 x) (BitVec.ofInt 256 y))
    = .next (failed (withBuses s (BitVec.ofInt 256 x) (BitVec.ofInt 256 y)) c)

/-- The while loop of POW (R181) as a relation: from `acc`, `b`, `e` it ends with the value or, `none`, with OverflowError. -/
inductive PowLoop : Int → Int → Nat → Option Int → Prop where
  | done (acc b : Int) : PowLoop acc b 0 (some acc)
  | accOverflows (acc b : Int) (e : Nat) (odd : e % 2 = 1) (out : ¬ Fits (truncDiv (acc * b) (2 ^ 64))) : PowLoop acc b e none
  | last (acc b : Int) (fits : Fits (truncDiv (acc * b) (2 ^ 64))) : PowLoop acc b 1 (some (truncDiv (acc * b) (2 ^ 64)))
  | squareOverflows (acc b : Int) (e : Nat) (more : e / 2 ≠ 0) (fits : e % 2 = 1 → Fits (truncDiv (acc * b) (2 ^ 64)))
      (out : ¬ Fits (truncDiv (b * b) (2 ^ 64))) : PowLoop acc b e none
  | even (acc b : Int) (e : Nat) (r : Option Int) (parity : e % 2 = 0) (more : e / 2 ≠ 0)
      (fits : Fits (truncDiv (b * b) (2 ^ 64))) (rest : PowLoop acc (truncDiv (b * b) (2 ^ 64)) (e / 2) r) : PowLoop acc b e r
  | odd (acc b : Int) (e : Nat) (r : Option Int) (parity : e % 2 = 1) (more : e / 2 ≠ 0)
      (fitsAcc : Fits (truncDiv (acc * b) (2 ^ 64))) (fits : Fits (truncDiv (b * b) (2 ^ 64)))
      (rest : PowLoop (truncDiv (acc * b) (2 ^ 64)) (truncDiv (b * b) (2 ^ 64)) (e / 2) r) : PowLoop acc b e r

/-- One squaring of a mantissa, renormalised to `[2^127, 2^128)` (R183). -/
def squared (m : Nat) : Nat := if 2 ^ 255 ≤ m * m then m * m / 2 ^ 128 else m * m / 2 ^ 127

/-- The mantissa of R183 after `k` iterations on `x`, whose most significant bit is `msb`. -/
def mantissa (x msb : Nat) : Nat → Nat
  | 0 => x * 2 ^ (127 - msb)
  | k + 1 => squared (mantissa x msb k)

/-- The fractional bit that iteration `k + 1` of R183 emits: 1 when the square reaches `2^255`. -/
def log2Bit (x msb k : Nat) : Nat := if 2 ^ 255 ≤ mantissa x msb k * mantissa x msb k then 1 else 0

/-- The value of R183: the integer component, and the bits of weight `2^63` down to `2^0`. -/
def log2Value (x msb : Nat) : Int :=
  ((msb : Int) - 64) * 2 ^ 64 + ((∑ k ∈ Finset.range 64, log2Bit x msb k * 2 ^ (63 - k) : Nat) : Int)

/-- The entries that R187 lists, `T[1]` first, written out again from its table and not taken from the model. -/
def exp2Entries : List Nat :=
  [0x16A09E667F3BCC908B2FB1366EA957D3E, 0x1306FE0A31B7152DE8D5A46305C85EDEC, 0x1172B83C7D517ADCDF7C8C50EB14A7920,
    0x10B5586CF9890F6298B92B71842A98364, 0x1059B0D31585743AE7C548EB68CA417FE, 0x102C9A3E778060EE6F7CACA4F7A29BDE9,
    0x10163DA9FB33356D84A66AE336DCDFA40, 0x100B1AFA5ABCBED6129AB13EC11DC9544, 0x10058C86DA1C09EA1FF19D294CF2F679C,
    0x1002C605E2E8CEC506D21BFC89A23A010, 0x100162F3904051FA128BCA9C55C31E5E0, 0x1000B175EFFDC76BA38E31671CA939726]
  ++ [0x100058BA01FB9F96D6CACD4B180917C3E, 0x10002C5CC37DA9491D0985C348C68E7B3, 0x1000162E525EE054754457D5995292026,
    0x10000B17255775C040618BF4A4ADE83FC, 0x1000058B91B5BC9AE2EED81E9B7D4CFAC, 0x100002C5C89D5EC6CA4D7C8ACC017B7C9,
    0x10000162E43F4F831060E02D839A9D16D, 0x100000B1721BCFC99D9F890EA06911763, 0x10000058B90CF1E6D97F9CA14DBCC1628,
    0x1000002C5C863B73F016468F6BAC5CA2C, 0x100000162E430E5A18F6119E3C02282A5, 0x1000000B1721835514B86E6D96EFD1BFF]
  ++ [0x100000058B90C0B48C6BE5DF846C5B2F0, 0x10000002C5C8601CC6B9E94213C72737A, 0x1000000162E42FFF037DF38AA2B219F06,
    0x10000000B17217FBA9C739AA5819F44F9, 0x1000000058B90BFCDEE5ACD3C1CEDC823, 0x100000002C5C85FE31F35A6A30DA1BE50,
    0x10000000162E42FF0999CE3541B9FFFCF, 0x100000000B17217F80F4EF5AADDA45554, 0x10000000058B90BFBF8479BD5A81B51AD,
    0x1000000002C5C85FDF84BD62AE30A74CC, 0x100000000162E42FEFB2FED257559BDAA, 0x1000000000B17217F7D5A7716BBA4A9AF]
  ++ [0x100000000058B90BFBE9DDBAC5E109CCF, 0x10000000002C5C85FDF4B15DE6F17EB0D, 0x1000000000162E42FEFA494F1478FDE05,
    0x10000000000B17217F7D20CF927C8E94C, 0x1000000000058B90BFBE8F71CB4E4B33E, 0x100000000002C5C85FDF477B662B26945,
    0x10000000000162E42FEFA3AE53369388C, 0x100000000000B17217F7D1D351A389D40, 0x10000000000058B90BFBE8E8B2D3D4EDE,
    0x1000000000002C5C85FDF4741BEA6E77F, 0x100000000000162E42FEFA39FE95583C3, 0x1000000000000B17217F7D1CFB72B45E2]
  ++ [0x100000000000058B90BFBE8E7CC35C3F1, 0x10000000000002C5C85FDF473E242EA38, 0x1000000000000162E42FEFA39F02B772C,
    0x10000000000000B17217F7D1CF7D83C1A, 0x1000000000000058B90BFBE8E7BDCBE2E, 0x100000000000002C5C85FDF473DEA871F,
    0x10000000000000162E42FEFA39EF44D91, 0x100000000000000B17217F7D1CF79E949, 0x10000000000000058B90BFBE8E7BCE544,
    0x1000000000000002C5C85FDF473DE6ECA, 0x100000000000000162E42FEFA39EF366F, 0x1000000000000000B17217F7D1CF79AFA]
  ++ [0x100000000000000058B90BFBE8E7BCD6D, 0x10000000000000002C5C85FDF473DE6B2, 0x1000000000000000162E42FEFA39EF358,
    0x10000000000000000B17217F7D1CF79AC]

/-- `T[k]` as R187 lists it, for `k` from 1 to 64. -/
def exp2Entry (k : Nat) : Nat := exp2Entries.getD (k - 1) 0

/-- The register `r` of R186 after `k` steps on an `x` with the fractional bits `frac`. -/
def exp2Register (frac : Nat) : Nat → Nat
  | 0 => 2 ^ 127
  | k + 1 =>
    if frac / 2 ^ (63 - k) % 2 = 1 then exp2Register frac k * exp2Entry (k + 1) / 2 ^ 128 else exp2Register frac k

/-- The value of R186 for `-64.ONE <= x < 63.ONE`. -/
def exp2Value (x : Int) : Int :=
  ((exp2Register (x % 2 ^ 64).toNat 64 / 2 ^ (63 - x / 2 ^ 64).toNat : Nat) : Int)

/-- The values on the input ports `j` edges from now. -/
def portsAt (s : State) (j : Nat) : Ports :=
  match s.host.drop j with
  | p :: _ => p
  | [] => Config.hostPorts (s.edges + j)

/-- One turn of a host that issues a command and consumes its response (R277): idle cycles, the command, the cycles of BUSY,
cycles in which it lets the response wait, and the cycle that consumes it. -/
structure Turn where
  idle : List Ports
  issue : Ports
  busy : List Ports
  hold : List Ports
  consume : Ports

/-- What makes a turn a turn (R9, R51 to R54): no reset; nothing presented while idle; the command presented; from 1 to
`LAT_MAX` cycles in BUSY; the response not consumed, then consumed. Every other port value is arbitrary. -/
structure Turn.Ok (t : Turn) : Prop where
  idle_quiet : ∀ p ∈ t.idle, p.rst = false ∧ p.cmdValid = false
  issue_valid : t.issue.rst = false ∧ t.issue.cmdValid = true
  busy_long : t.busy ≠ []
  busy_bounded : t.busy.length ≤ Config.latMax
  busy_quiet : ∀ p ∈ t.busy, p.rst = false
  hold_waits : ∀ p ∈ t.hold, p.rst = false ∧ p.rspReady = false
  consume_ready : t.consume.rst = false ∧ t.consume.rspReady = true

/-- The port values of a turn up to the cycle before it is consumed. -/
def Turn.upToResponse (t : Turn) : List Ports := t.idle ++ t.issue :: (t.busy ++ t.hold)

/-- The port values of a turn. -/
def Turn.tape (t : Turn) : List Ports := t.upToResponse ++ [t.consume]

/-- The command of a turn. -/
def Turn.command (t : Turn) : Command := { w := t.issue.cmd, a := t.issue.a, b := t.issue.b }

/-- The bits of an operand's field (R33, R75). -/
def fieldBits : ValueType → Nat
  | .fixed | .int128 => 128
  | .int64 | .uint64 => 64
  | .int256 | .uint256 => 256

/-- The integers of a result type (R12, R13, R76). -/
def InType : ValueType → Int → Prop
  | .fixed, v => Fits v
  | .int64, v => -2 ^ 63 ≤ v ∧ v ≤ 2 ^ 63 - 1
  | .int128, v => -2 ^ 127 ≤ v ∧ v ≤ 2 ^ 127 - 1
  | .int256, v => -2 ^ 255 ≤ v ∧ v ≤ 2 ^ 255 - 1
  | .uint64, v => 0 ≤ v ∧ v ≤ 2 ^ 64 - 1
  | .uint256, v => 0 ≤ v ∧ v ≤ 2 ^ 256 - 1

/-- The error codes a command may report, IllegalCommand apart, which is decided before it (R246). -/
def errorCodes : Instr → List ErrCode
  | .nop | .mov _ | .ldc _ | .clrst | .toint _ | .to128 _ | .avg _ _ => []
  | .fromint _ | .fromuint _ | .touint _ | .from128 _ => [1]
  | .fromdec _ _ | .todec _ _ | .mulu _ _ => [1, 2]
  | .add _ _ | .sub _ _ | .neg _ | .abs _ | .mul _ _ | .muli _ _ | .pow _ _ | .exp2 _ | .exp _ => [2]
  | .div _ _ | .divi _ _ | .divu _ _ | .inv _ => [2, 3]
  | .gavg _ _ => [2, 4]
  | .sqrt _ | .log2 _ | .ln _ => [4]

/-- The 33 reserved opcodes (R78). -/
def reservedOps : List Nat :=
  [0x09, 0x0A, 0x0B, 0x0C, 0x0D, 0x0E, 0x0F] ++ [0x15, 0x16, 0x17] ++ [0x1F]
  ++ [0x27, 0x28, 0x29, 0x2A, 0x2B, 0x2C, 0x2D, 0x2E, 0x2F]
  ++ [0x33, 0x34, 0x35, 0x36, 0x37, 0x38, 0x39, 0x3A, 0x3B, 0x3C, 0x3D, 0x3E, 0x3F]

/-- Two states that differ at most in the model's own fields, which hold the environment (assumption 15). -/
def SameBlock (s t : State) : Prop := t = { s with host := t.host, draws := t.draws, edges := t.edges }

/-- Two states that differ at most in the latches of a command in BUSY: CW, A, B, the outcome and the counter (R44). -/
def SameButLatches (s t : State) : Prop :=
  t = { s with cw := t.cw, opA := t.opA, opB := t.opB, outcome := t.outcome, cnt := t.cnt }

end Sys2Proof.Safety
end

