-- ==== Sys2Proof/Certificates/Slice0/Obligations.lean ====
section
/-! DEFINITION. The statements for the provers. Each docstring names the rule of spec/ it formalises; the terms used are those
of Sys2Proof/Safety.lean. -/

open Sys2Proof Sys2Proof.Machine Sys2Proof.Safety

/-! ### Encoding -/

/-- R76, R81: the word of a well-formed command decodes to it, with every operand at every value. -/
def Obligations.DecodeOfEncodeIsTheCommand : Prop :=
  ∀ i : Instr, i.wellFormed = true → decode (encode i) = .ok i

/-- R81: a word that decodes is the one word of its command, and the command is well-formed. -/
def Obligations.EncodeOfDecodeIsTheWord : Prop :=
  ∀ (w : CmdWord) (i : Instr), decode w = .ok i → encode i = w ∧ i.wellFormed = true

/-- R76, R77: the decoder accepts exactly the legal words, a legal word selects exactly one row of the map, that of the command
it decodes to, and every other word raises IllegalCommand with the effects of R39 and no other effect. -/
def Obligations.LegalWordsDecodeOthersAreIllegal : Prop :=
  (∀ w : CmdWord, legal w = true ↔ ∃ i, decode w = .ok i) ∧
  (∀ w : CmdWord, legal w = true → ∃ r, (r ∈ opcodeMap ∧ w &&& r.mask = r.matchBits) ∧
    ∀ q, q ∈ opcodeMap ∧ w &&& q.mask = q.matchBits → q = r) ∧
  (∀ (w : CmdWord) (i : Instr), decode w = .ok i → i.row ∈ opcodeMap ∧ w &&& i.row.mask = i.row.matchBits) ∧
  (∀ (s : State) (c : Command), legal c.w = false →
    s.execCommand c = .next (failed { s with host := c.ports :: s.host } 5))

/-- R84: the worked encodings, the eight legal ones and the five illegal ones. -/
def Obligations.WorkedEncodingsDecode : Prop :=
  decode 0x00000000 = .ok .nop ∧ decode 0x00000001 = .ok (.fromint .bus) ∧ decode 0x00000042 = .ok (.toint .res) ∧
  decode 0x0000005B = .ok (.div .res .bus) ∧ decode 0x0000009B = .ok (.div .bus .res) ∧
  decode 0x000000D8 = .ok (.mul .res .res) ∧ decode 0x00000648 = .ok (.todec .res 6) ∧ decode 0x00000032 = .ok .clrst ∧
  decode 0x00000092 = .error .sourceB ∧ decode 0x00000110 = .error .immediate ∧ decode 0x00000531 = .error .romIndex ∧
  decode 0x0000003F = .error .reservedOpcode ∧ decode 0x00010000 = .error .reservedBits

/-- R78: there are 33 reserved opcodes; a word with one of them, with a reserved bit set, or with SA, SB or IMM set where the
row's command does not read it, is no command, and raises IllegalCommand. -/
def Obligations.ReservedEncodingsAreIllegal : Prop :=
  reservedOps.length = 33 ∧ reservedOps.Nodup ∧
  (∀ w : CmdWord,
    (w.toNat % 2 ^ 6 ∈ reservedOps ∨ w.toNat / 2 ^ 16 ≠ 0 ∨
      ∃ r ∈ opcodeMap, r.op = w.toNat % 2 ^ 6 ∧
        ((r.operandA = none ∧ w.toNat / 2 ^ 6 % 2 = 1) ∨ (r.operandB = none ∧ w.toNat / 2 ^ 7 % 2 = 1) ∨
          (r.imm = .mustBeZero ∧ w.toNat / 2 ^ 8 % 2 ^ 8 ≠ 0))) →
    (∃ e, decode w = .error e) ∧
      ∀ (s : State) (a b : Bus), s.execCommand ⟨w, a, b⟩ = .next (failed { s with host := Command.ports ⟨w, a, b⟩ :: s.host } 5))

/-- R82: the assembly form of a well-formed command assembles to its word, in capitals as `asmOf` writes it. -/
def Obligations.AssemblyFormDeterminesTheWord : Prop :=
  ∀ i : Instr, i.wellFormed = true → assemble (asmOf i) = some (encode i)

/-- R83: the pseudo-instructions' words, and the commands that the words are. -/
def Obligations.PseudoInstructionsAreAliases : Prop :=
  assemble ⟨"FROMWEI", some .bus, none, none⟩ = some 0x00001207 ∧ decode 0x00001207 = .ok (.fromdec .bus 18) ∧
  assemble ⟨"FROMWEI", some .res, none, none⟩ = some 0x00001247 ∧ decode 0x00001247 = .ok (.fromdec .res 18) ∧
  assemble ⟨"TOWEI", some .bus, none, none⟩ = some 0x00001208 ∧ decode 0x00001208 = .ok (.todec .bus 18) ∧
  assemble ⟨"TOWEI", some .res, none, none⟩ = some 0x00001248 ∧ decode 0x00001248 = .ok (.todec .res 18) ∧
  assemble ⟨"LDONE", none, none, none⟩ = some 0x00000031 ∧ decode 0x00000031 = .ok (.ldc 0) ∧
  assemble ⟨"LDMIN", none, none, none⟩ = some 0x00000131 ∧ decode 0x00000131 = .ok (.ldc 1) ∧
  assemble ⟨"LDMAX", none, none, none⟩ = some 0x00000231 ∧ decode 0x00000231 = .ok (.ldc 2) ∧
  assemble ⟨"LDE", none, none, none⟩ = some 0x00000331 ∧ decode 0x00000331 = .ok (.ldc 3) ∧
  assemble ⟨"LDPI", none, none, none⟩ = some 0x00000431 ∧ decode 0x00000431 = .ok (.ldc 4)

/-! ### The handshake, one edge at a time -/

/-- R51: in IDLE, with no reset and a command presented, the step is `exec` of the decoded command at that very state, its
outcome latched: the word, the operands by bits 6 and 7, the outcome and the drawn latency; the phase becomes BUSY, and RES,
STATUS and the response stay. The last three fields are the model's own (assumptions 2, 3, 15). -/
def Obligations.StepRunsTheDecodedCommand : Prop :=
  ∀ (s t : State) (i : Instr), s.phase = .idle → s.ports.rst = false → s.ports.cmdValid = true →
    decode s.ports.cmd = .ok i → exec i s = .next t →
    step s = .next { s with
      phase := .busy
      cw := s.ports.cmd
      opA := if s.ports.cmd.getLsbD 6 = true then s.res else s.ports.a
      opB := if s.ports.cmd.getLsbD 7 = true then s.res else s.ports.b
      outcome := ⟨t.res, t.lastErr, t.sticky, t.rspRes, t.rspErr⟩
      cnt := s.latency
      draws := s.draws.tail
      host := s.host.tail
      edges := s.edges + 1 }

/-- R245, R51: in IDLE, with no reset and an illegal word presented, the word is accepted and the outcome is that of
IllegalCommand: LASTERR 5, STICKY 1, response 0 with code 5, RES as it was. -/
def Obligations.StepAcceptsAnIllegalWord : Prop :=
  ∀ (s : State) (e : Illegal), s.phase = .idle → s.ports.rst = false → s.ports.cmdValid = true →
    decode s.ports.cmd = .error e →
    ∃ t, step s = .next t ∧ t.phase = .busy ∧ t.cw = s.ports.cmd ∧ t.outcome = ⟨s.res, 5, true, 0, 5⟩ ∧ 1 ≤ t.cnt ∧
      t.res = s.res ∧ t.lastErr = s.lastErr ∧ t.sticky = s.sticky ∧ t.rspRes = s.rspRes ∧ t.rspErr = s.rspErr

/-- R270, R271: a reset edge in any phase and whatever the other inputs puts every observable piece of state at its reset
value; nothing is accepted, completed or consumed. -/
def Obligations.ResetEdgeWinsInEveryPhase : Prop :=
  ∀ s : State, s.ports.rst = true →
    ∃ t, step s = .next t ∧ t.res = 0 ∧ t.lastErr = 0 ∧ t.sticky = false ∧ t.phase = .idle ∧ t.rspRes = 0 ∧ t.rspErr = 0 ∧
      t.cmdReady = true ∧ t.rspValid = false ∧ t.resQ = 0 ∧ t.statusQ = 0

/-- R54: the phase transitions that exist, from every state that meets the invariant (in BUSY a cycle is left); the waits, which
leave every piece of FXP64's state; and the inputs that a phase ignores, which make no difference to the step. The inputs of an
edge are the head of the model's list (assumption 2). -/
def Obligations.NoOtherPhaseTransitions : Prop :=
  (∀ s t : State, Inv s → step s = .next t →
    (s.ports.rst = true ∧ t.phase = .idle) ∨ (s.ports.rst = false ∧ (t.phase = s.phase ∨
      (s.phase = .idle ∧ s.ports.cmdValid = true ∧ t.phase = .busy) ∨ (s.phase = .busy ∧ s.cnt = 1 ∧ t.phase = .resp) ∨
      (s.phase = .resp ∧ s.ports.rspReady = true ∧ t.phase = .idle)))) ∧
  (∀ s : State, s.ports.rst = false →
    ((s.phase = .idle ∧ s.ports.cmdValid = false) ∨ (s.phase = .resp ∧ s.ports.rspReady = false)) →
    ∃ t, step s = .next t ∧ SameBlock s t) ∧
  (∀ (s : State) (p q : Ports) (l : List Ports), p.rst = q.rst →
    (s.phase = .idle → p = { q with rspReady := p.rspReady }) → (s.phase = .resp → p.rspReady = q.rspReady) →
    step { s with host := p :: l } = step { s with host := q :: l })

/-- R52: an edge in BUSY without reset lowers the counter, and when it reaches 0 applies the latched outcome to RES, STATUS,
RSPRES and RSPERR and holds the response. -/
def Obligations.BusyCountsDownThenCompletes : Prop :=
  ∀ s : State, s.phase = .busy → s.ports.rst = false →
    (1 < s.cnt → step s = .next { s with cnt := s.cnt - 1, host := s.host.tail, edges := s.edges + 1 }) ∧
    (s.cnt = 1 → ∃ t, step s = .next t ∧ t.phase = .resp ∧ t.cnt = 0 ∧ t.res = s.outcome.res ∧ t.lastErr = s.outcome.lastErr ∧
      t.sticky = s.outcome.sticky ∧ t.rspRes = s.outcome.rspRes ∧ t.rspErr = s.outcome.rspErr)

/-- R53: a response is consumed when the host is ready, and is held unchanged while it is not; a new command is accepted at the
earliest one edge later. -/
def Obligations.ResponseIsHeldUntilConsumed : Prop :=
  ∀ s : State, s.phase = .resp → s.ports.rst = false →
    (s.ports.rspReady = true → step s = .next { s with
      phase := .idle, rspRes := 0, rspErr := 0, host := s.host.tail, edges := s.edges + 1 }) ∧
    (s.ports.rspReady = false → ∃ t, step s = .next t ∧ t.phase = .resp ∧ t.rspValid = true ∧ t.rspResOut = s.rspResOut ∧
      t.rspErrOut = s.rspErrOut) ∧
    (∀ t, step s = .next t → t.phase ≠ .busy)

/-- R22: the outputs by phase and state, the response outputs 0 outside RESP; they depend on the state only, not on the inputs
of the cycle. STATUS is STICKY at bit 3 and LASTERR at bits 2:0 (R40). -/
def Obligations.OutputsFollowTheState : Prop :=
  ∀ s : State, Inv s →
    (s.cmdReady = true ↔ s.phase = .idle) ∧ (s.rspValid = true ↔ s.phase = .resp) ∧
    s.rspResOut = s.rspRes ∧ s.rspErrOut = s.rspErr ∧ (s.phase ≠ .resp → s.rspResOut = 0 ∧ s.rspErrOut = 0) ∧
    s.resQ = s.res ∧ s.statusQ.toNat = s.lastErr.toNat + (if s.sticky = true then 8 else 0) ∧
    ∀ l : List Ports, State.cmdReady { s with host := l } = s.cmdReady ∧ State.rspValid { s with host := l } = s.rspValid ∧
      State.rspResOut { s with host := l } = s.rspResOut ∧ State.rspErrOut { s with host := l } = s.rspErrOut ∧
      State.resQ { s with host := l } = s.resQ ∧ State.statusQ { s with host := l } = s.statusQ

/-- R48: the reset values the rule states (those of the latches it leaves unspecified are not claimed). -/
def Obligations.ResetStateHasTheResetValues : Prop :=
  State.reset.res = 0 ∧ State.reset.lastErr = 0 ∧ State.reset.sticky = false ∧ State.reset.phase = .idle ∧
  State.reset.cmdReady = true ∧ State.reset.rspValid = false ∧ State.reset.rspRes = 0 ∧ State.reset.rspErr = 0

/-- R60: `res_q` and `status_q` change only at completion edges and reset edges. -/
def Obligations.ResAndStatusChangeOnlyAtCompletionOrReset : Prop :=
  ∀ s t : State, step s = .next t → s.ports.rst = false → ¬ (s.phase = .busy ∧ s.cnt ≤ 1) →
    t.resQ = s.resQ ∧ t.statusQ = s.statusQ

/-! ### The machine over all commands -/

/-- R259, R37 to R39: every command ends in exactly one of the three endings, with a next state; the ending says all that
changes, so this is the frame of every command: the phase, the latches, the counter and the environment stay. A committed
integer is in `[-2^255, 2^256)`; only CLRST touches STICKY on success (R40). -/
def Obligations.EveryCommandEndsInOneOfThreeWays : Prop :=
  ∀ (i : Instr) (s : State), ∃ t, exec i s = .next t ∧
    ((i ≠ .nop ∧ i ≠ .clrst ∧ ∃ v : Int, -2 ^ 255 ≤ v ∧ v < 2 ^ 256 ∧ t = succeeded s v) ∨
     (∃ c : ErrCode, 1 ≤ c.toNat ∧ c.toNat ≤ 5 ∧ t = failed s c) ∨
     (i = .nop ∧ t = { s with lastErr := 0, rspRes := s.res, rspErr := 0 }) ∨
     (i = .clrst ∧ t = { s with lastErr := 0, sticky := false, rspRes := s.res, rspErr := 0 }))

/-- R77, R259: every step answers a next state; no state stops the machine. -/
def Obligations.EveryStepAnswersANextState : Prop :=
  ∀ s : State, ∃ t, step s = .next t

/-- R76, R109: a command that succeeds commits an integer of its row's result type. -/
def Obligations.ResultsStayInTheirType : Prop :=
  ∀ (i : Instr) (s t : State) (ty : ValueType), exec i s = .next t → i.row.result = some ty → t.rspErr = 0 →
    ∃ v, InType ty v ∧ t = succeeded s v

/-- R246: the error codes each command can report, on every operand; a well-formed command never reports another. -/
def Obligations.CommandsReportOnlyTheirErrors : Prop :=
  ∀ (i : Instr) (s t : State), i.wellFormed = true → exec i s = .next t → t.rspErr ≠ 0 → t.rspErr ∈ errorCodes i

/-- R41: no command's result depends on STATUS; it executes the same whatever LASTERR and STICKY are. -/
def Obligations.NoCommandReadsStatus : Prop :=
  ∀ (i : Instr) (s t : State) (c : ErrCode) (b : Bool), exec i s = .next t →
    ∃ u, exec i { s with lastErr := c, sticky := b } = .next u ∧ u.res = t.res ∧ u.lastErr = t.lastErr ∧
      u.rspRes = t.rspRes ∧ u.rspErr = t.rspErr

/-- R33: bus bits above the field an operation reads, and a bus that it does not read, have no effect on result or error. A bus
is not read where the row has no such operand, or where the source bit selects RES (R34). -/
def Obligations.UnreadOperandBitsAreIgnored : Prop :=
  ∀ (i : Instr) (s t : State) (a b a' b' : Bus),
    (∀ ty, i.row.operandA = some ty → i.saBit = 0 → a.toNat % 2 ^ fieldBits ty = a'.toNat % 2 ^ fieldBits ty) →
    (∀ ty, i.row.operandB = some ty → i.sbBit = 0 → b.toNat % 2 ^ fieldBits ty = b'.toNat % 2 ^ fieldBits ty) →
    exec i (withBuses s a b) = .next t →
    ∃ u, exec i (withBuses s a' b') = .next u ∧ u.outcomeOf = t.outcomeOf

/-- R40: STICKY becomes 0 only through CLRST and reset: from a state that meets the invariant, a step that clears it is a reset
edge or completes the command whose word, latched at acceptance, is that of CLRST; and of all words only that one has an
outcome that clears it, from every state. -/
def Obligations.OnlyClrstAndResetClearSticky : Prop :=
  (∀ s t : State, Inv s → step s = .next t → s.sticky = true → t.sticky = false →
    s.ports.rst = true ∨ (s.phase = .busy ∧ s.cnt = 1 ∧ s.cw = 0x00000032)) ∧
  (∀ s t : State, s.execWord = .next t → s.sticky = true → t.sticky = false → s.ports.cmd = 0x00000032)

/-- R22, R37 to R40, R44, R52: the invariant of the block is kept by every step. -/
def Obligations.EveryStepKeepsTheBlockInvariant : Prop :=
  ∀ s t : State, Inv s → step s = .next t → Inv t

/-- R48: the invariant of the block holds at reset. -/
def Obligations.BlockInvariantHoldsAtReset : Prop := Inv State.reset

/-- R9, R10: the latency drawn in any state is in `[1, LAT_MAX]`, and any value of the range can be drawn; the cycles left in BUSY
stay within `LAT_MAX` at every step, and do at reset (that the draws are a list is the model's own, assumption 3). -/
def Obligations.LatencyStaysWithinItsBound : Prop :=
  (∀ s : State, 1 ≤ s.latency ∧ s.latency ≤ Config.latMax) ∧
  (∀ (s : State) (L : Nat), 1 ≤ L → L ≤ Config.latMax → State.latency { s with draws := L :: s.draws } = L) ∧
  Bounded State.reset ∧ ∀ s t : State, Bounded s → step s = .next t → Bounded t

/-- R44, R48: the latches of a command in BUSY are never observable outside it: two states that differ only in them step to
states that do, and once a command is accepted to the same state. -/
def Obligations.LatchesAreNotObservableOutsideBusy : Prop :=
  ∀ s s' : State, s.phase ≠ .busy → SameButLatches s s' →
    ∃ t t', step s = .next t ∧ step s' = .next t' ∧ SameButLatches t t' ∧ (t.phase = .busy → t = t')

/-- R51, R52, R276: a command accepted at this edge with a drawn latency `L`, at most `LAT_MAX`, is in BUSY after it and after the `L - 1` edges
that follow, RES and STATUS as they were, and at the `L`-th edge that follows its outcome, that of `Exec` on the accepting
state, is in RES, STATUS and the response, whatever the host drives meanwhile other than reset. -/
def Obligations.HandshakeDeliversTheOutcomeOfExec : Prop :=
  ∀ s t : State, s.phase = .idle → s.ports.rst = false → s.ports.cmdValid = true → s.execWord = .next t →
    (∀ j, 1 ≤ j → j ≤ s.latency → (portsAt s j).rst = false) →
    (1 ≤ s.latency ∧ s.latency ≤ Config.latMax) ∧
    (∀ k, 1 ≤ k → k ≤ s.latency → ∃ u, runEdges k s = .next u ∧ u.phase = .busy ∧ u.resQ = s.resQ ∧ u.statusQ = s.statusQ) ∧
    (∃ u, runEdges (s.latency + 1) s = .next u ∧ u.phase = .resp ∧ u.outcomeOf = t.outcomeOf)

/-- R59, R278: a host that issues commands one after the other, each in a turn of its own, with any idle cycles, any latencies
up to `LAT_MAX` and any delays before it consumes, gets for each command the response and leaves the RES and STATUS that the fold of `Exec`
over the commands gives. -/
def Obligations.RunIsTheFoldOfExec : Prop :=
  ∀ (s : State) (ts : List Turn) (t : Turn) (l : List Ports) (d : List Nat), s.phase = .idle →
    (∀ u ∈ ts ++ [t], u.Ok) →
    s.host = (ts.map Turn.tape).flatten ++ (t.tape ++ l) →
    s.draws = (ts ++ [t]).map (fun u => u.busy.length) ++ d →
    ∃ o u v, (execAll s ((ts ++ [t]).map Turn.command)).getLast? = some o ∧
      runEdges ((ts.map Turn.tape).flatten.length + t.upToResponse.length) s = .next u ∧ u.phase = .resp ∧ u.outcomeOf = o ∧
      runEdges ((ts.map Turn.tape).flatten.length + t.tape.length) s = .next v ∧ v.phase = .idle ∧ v.host = l ∧
      v.res = o.res ∧ v.lastErr = o.lastErr ∧ v.sticky = o.sticky

/-! ### Conversions -/

/-- R100. -/
def Obligations.FromintShiftsOrRangeError : Prop :=
  ∀ (sa : Src) (s : State), Word 0x01 sa .bus 0 (.fromint sa) ∧
    (-2 ^ 63 ≤ signed128 (srcA s sa) ∧ signed128 (srcA s sa) ≤ 2 ^ 63 - 1 →
      exec (.fromint sa) s = .next (succeeded s (signed128 (srcA s sa) * 2 ^ 64))) ∧
    (¬ (-2 ^ 63 ≤ signed128 (srcA s sa) ∧ signed128 (srcA s sa) ≤ 2 ^ 63 - 1) → exec (.fromint sa) s = .next (failed s 1))

/-- R101, R105: TOINT takes the floor, an int64; TO128 shifts, an int256; neither fails. -/
def Obligations.TointAndTo128AlwaysSucceed : Prop :=
  ∀ (sa : Src) (s : State), Word 0x02 sa .bus 0 (.toint sa) ∧ Word 0x06 sa .bus 0 (.to128 sa) ∧
    exec (.toint sa) s = .next (succeeded s (signed128 (srcA s sa) / 2 ^ 64)) ∧
    -2 ^ 63 ≤ signed128 (srcA s sa) / 2 ^ 64 ∧ signed128 (srcA s sa) / 2 ^ 64 ≤ 2 ^ 63 - 1 ∧
    exec (.to128 sa) s = .next (succeeded s (signed128 (srcA s sa) * 2 ^ 64))

/-- R102, R103. -/
def Obligations.FromuintAndTouintOrRangeError : Prop :=
  ∀ (sa : Src) (s : State), Word 0x03 sa .bus 0 (.fromuint sa) ∧ Word 0x04 sa .bus 0 (.touint sa) ∧
    (unsigned64 (srcA s sa) < 2 ^ 63 → exec (.fromuint sa) s = .next (succeeded s (unsigned64 (srcA s sa) * 2 ^ 64))) ∧
    (2 ^ 63 ≤ unsigned64 (srcA s sa) → exec (.fromuint sa) s = .next (failed s 1)) ∧
    (0 ≤ signed128 (srcA s sa) → exec (.touint sa) s = .next (succeeded s (signed128 (srcA s sa) / 2 ^ 64))) ∧
    (signed128 (srcA s sa) < 0 → exec (.touint sa) s = .next (failed s 1))

/-- R104: the floor of the 128.128 value, RangeError exactly when it is `2^191` or more or below `-2^191`. -/
def Obligations.From128FloorsOrRangeError : Prop :=
  ∀ (sa : Src) (s : State), Word 0x05 sa .bus 0 (.from128 sa) ∧
    (-2 ^ 191 ≤ signed256 (srcA s sa) ∧ signed256 (srcA s sa) < 2 ^ 191 →
      exec (.from128 sa) s = .next (succeeded s (signed256 (srcA s sa) / 2 ^ 64))) ∧
    (signed256 (srcA s sa) < -2 ^ 191 ∨ 2 ^ 191 ≤ signed256 (srcA s sa) → exec (.from128 sa) s = .next (failed s 1))

/-- R106, R107. -/
def Obligations.FromdecScalesOrFails : Prop :=
  ∀ (sa : Src) (d : BitVec 8) (s : State), Word 0x07 sa .bus d (.fromdec sa d) ∧
    (78 ≤ d.toNat → exec (.fromdec sa d) s = .next (failed s 2)) ∧
    (d.toNat < 78 → unsigned256 (srcA s sa) * 2 ^ 64 / 10 ^ d.toNat ≤ 2 ^ 127 - 1 →
      exec (.fromdec sa d) s = .next (succeeded s (unsigned256 (srcA s sa) * 2 ^ 64 / 10 ^ d.toNat))) ∧
    (d.toNat < 78 → 2 ^ 127 - 1 < unsigned256 (srcA s sa) * 2 ^ 64 / 10 ^ d.toNat →
      exec (.fromdec sa d) s = .next (failed s 1))

/-- R106, R108: the sign first, then the decimals, then the product. -/
def Obligations.TodecScalesOrFails : Prop :=
  ∀ (sa : Src) (d : BitVec 8) (s : State), Word 0x08 sa .bus d (.todec sa d) ∧
    (signed128 (srcA s sa) < 0 → exec (.todec sa d) s = .next (failed s 1)) ∧
    (0 ≤ signed128 (srcA s sa) → 78 ≤ d.toNat → exec (.todec sa d) s = .next (failed s 2)) ∧
    (0 ≤ signed128 (srcA s sa) → d.toNat < 78 → 2 ^ 256 ≤ signed128 (srcA s sa) * 10 ^ d.toNat →
      exec (.todec sa d) s = .next (failed s 2)) ∧
    (0 ≤ signed128 (srcA s sa) → d.toNat < 78 → signed128 (srcA s sa) * 10 ^ d.toNat < 2 ^ 256 →
      exec (.todec sa d) s = .next (succeeded s (signed128 (srcA s sa) * 10 ^ d.toNat / 2 ^ 64)))

/-- R109, the round trips: each conversion followed by its inverse on the committed value; the decimal one never gains. -/
def Obligations.ConversionsRoundTrip : Prop :=
  ∀ (s : State) (y : Int),
    (∀ n : Int, -2 ^ 63 ≤ n → n ≤ 2 ^ 63 - 1 → ∃ v, Gives (.fromint .bus) s n y v ∧ Gives (.toint .bus) s v y n) ∧
    (∀ n : Int, 0 ≤ n → n ≤ 2 ^ 63 - 1 → ∃ v, Gives (.fromuint .bus) s n y v ∧ Gives (.touint .bus) s v y n) ∧
    (∀ x : Int, Fits x → ∃ v, Gives (.to128 .bus) s x y v ∧ Gives (.from128 .bus) s v y x) ∧
    (∀ (x v : Int) (d : BitVec 8), Fits x → 0 ≤ x → d.toNat ≤ 77 → Gives (.todec .bus d) s x y v →
      ∃ u, 0 ≤ u ∧ u ≤ x ∧ Gives (.fromdec .bus d) s v y u)

/-! ### Linear arithmetic -/

/-- R130, R131. -/
def Obligations.AddAndSubAreExactOrOverflow : Prop :=
  ∀ (sa sb : Src) (s : State), Word 0x10 sa sb 0 (.add sa sb) ∧ Word 0x11 sa sb 0 (.sub sa sb) ∧
    (Fits (signed128 (srcA s sa) + signed128 (srcB s sb)) →
      exec (.add sa sb) s = .next (succeeded s (signed128 (srcA s sa) + signed128 (srcB s sb)))) ∧
    (¬ Fits (signed128 (srcA s sa) + signed128 (srcB s sb)) → exec (.add sa sb) s = .next (failed s 2)) ∧
    (Fits (signed128 (srcA s sa) - signed128 (srcB s sb)) →
      exec (.sub sa sb) s = .next (succeeded s (signed128 (srcA s sa) - signed128 (srcB s sb)))) ∧
    (¬ Fits (signed128 (srcA s sa) - signed128 (srcB s sb)) → exec (.sub sa sb) s = .next (failed s 2))

/-- R132, R133. -/
def Obligations.NegAndAbsOverflowOnlyAtMin : Prop :=
  ∀ (sa : Src) (s : State), Word 0x12 sa .bus 0 (.neg sa) ∧ Word 0x13 sa .bus 0 (.abs sa) ∧
    (signed128 (srcA s sa) ≠ -2 ^ 127 → exec (.neg sa) s = .next (succeeded s (-signed128 (srcA s sa)))) ∧
    (signed128 (srcA s sa) = -2 ^ 127 → exec (.neg sa) s = .next (failed s 2)) ∧
    (signed128 (srcA s sa) ≠ -2 ^ 127 → exec (.abs sa) s = .next (succeeded s |signed128 (srcA s sa)|)) ∧
    (signed128 (srcA s sa) = -2 ^ 127 → exec (.abs sa) s = .next (failed s 2))

/-- R134: the mean rounded toward minus infinity, between the operands; AVG never fails. -/
def Obligations.AvgIsTheFloorOfTheMean : Prop :=
  ∀ (sa sb : Src) (s : State), Word 0x14 sa sb 0 (.avg sa sb) ∧
    exec (.avg sa sb) s = .next (succeeded s ((signed128 (srcA s sa) + signed128 (srcB s sb)) / 2)) ∧
    min (signed128 (srcA s sa)) (signed128 (srcB s sb)) ≤ (signed128 (srcA s sa) + signed128 (srcB s sb)) / 2 ∧
    (signed128 (srcA s sa) + signed128 (srcB s sb)) / 2 ≤ max (signed128 (srcA s sa)) (signed128 (srcB s sb))

/-- R135: the laws of linear arithmetic. -/
def Obligations.LinearLaws : Prop :=
  ∀ s : State,
    (∀ x : Int, Fits x → x ≠ -2 ^ 127 → ∃ m, Fits m ∧ Gives (.neg .bus) s x 0 m ∧ Gives (.add .bus .bus) s x m 0) ∧
    (∀ x : Int, Gives (.sub .bus .bus) s x x 0) ∧
    (∀ x y v : Int, Gives (.add .bus .bus) s x y v ↔ Gives (.add .bus .bus) s y x v) ∧
    (∀ x y v : Int, Gives (.avg .bus .bus) s x y v ↔ Gives (.avg .bus .bus) s y x v) ∧
    (∀ x y v w : Int, Fits x → Fits y → Gives (.sub .bus .bus) s x y v → Gives (.sub .bus .bus) s y x w →
      Gives (.neg .bus) s w 0 v) ∧
    (∀ x y : Int, Fits x → Fits y →
      ((Fits (x + y) ∧ Gives (.add .bus .bus) s x y (x + y)) ∨ Fails (.add .bus .bus) s x y 2) ∧
      ((Fits (x - y) ∧ Gives (.sub .bus .bus) s x y (x - y)) ∨ Fails (.sub .bus .bus) s x y 2) ∧
      ((Fits (-x) ∧ Gives (.neg .bus) s x y (-x)) ∨ Fails (.neg .bus) s x y 2) ∧
      ((Fits |x| ∧ Gives (.abs .bus) s x y |x|) ∨ Fails (.abs .bus) s x y 2))

/-! ### Multiplicative arithmetic -/

/-- R150, R151: the product truncated toward zero, or OverflowError. -/
def Obligations.MulTruncatesOrOverflows : Prop :=
  ∀ (sa sb : Src) (s : State), Word 0x18 sa sb 0 (.mul sa sb) ∧
    (Fits (truncDiv (signed128 (srcA s sa) * signed128 (srcB s sb)) (2 ^ 64)) →
      exec (.mul sa sb) s = .next (succeeded s (truncDiv (signed128 (srcA s sa) * signed128 (srcB s sb)) (2 ^ 64)))) ∧
    (¬ Fits (truncDiv (signed128 (srcA s sa) * signed128 (srcB s sb)) (2 ^ 64)) → exec (.mul sa sb) s = .next (failed s 2))

/-- R152: OverflowError exactly when the unshifted product is no int256. -/
def Obligations.MuliTruncatesOrOverflows : Prop :=
  ∀ (sa sb : Src) (s : State), Word 0x19 sa sb 0 (.muli sa sb) ∧
    (-2 ^ 255 ≤ signed128 (srcA s sa) * signed256 (srcB s sb) ∧
        signed128 (srcA s sa) * signed256 (srcB s sb) ≤ 2 ^ 255 - 1 →
      exec (.muli sa sb) s = .next (succeeded s (truncDiv (signed128 (srcA s sa) * signed256 (srcB s sb)) (2 ^ 64)))) ∧
    (¬ (-2 ^ 255 ≤ signed128 (srcA s sa) * signed256 (srcB s sb) ∧
        signed128 (srcA s sa) * signed256 (srcB s sb) ≤ 2 ^ 255 - 1) →
      exec (.muli sa sb) s = .next (failed s 2))

/-- R153: RangeError for a negative `x`, whatever `n`; then OverflowError for a product of `2^256` or more. -/
def Obligations.MuluFloorsOrFails : Prop :=
  ∀ (sa sb : Src) (s : State), Word 0x1A sa sb 0 (.mulu sa sb) ∧
    (signed128 (srcA s sa) < 0 → exec (.mulu sa sb) s = .next (failed s 1)) ∧
    (0 ≤ signed128 (srcA s sa) → signed128 (srcA s sa) * unsigned256 (srcB s sb) < 2 ^ 256 →
      exec (.mulu sa sb) s = .next (succeeded s (signed128 (srcA s sa) * unsigned256 (srcB s sb) / 2 ^ 64))) ∧
    (0 ≤ signed128 (srcA s sa) → 2 ^ 256 ≤ signed128 (srcA s sa) * unsigned256 (srcB s sb) →
      exec (.mulu sa sb) s = .next (failed s 2))

/-- R154, R155: the quotient truncated toward zero; DivisionByZero first, OverflowError exactly when the quotient does not fit. -/
def Obligations.DivAndDiviTruncateOrFail : Prop :=
  ∀ (sa sb : Src) (s : State), Word 0x1B sa sb 0 (.div sa sb) ∧ Word 0x1C sa sb 0 (.divi sa sb) ∧
    (signed128 (srcB s sb) = 0 → exec (.div sa sb) s = .next (failed s 3)) ∧
    (signed128 (srcB s sb) ≠ 0 → Fits (truncDiv (signed128 (srcA s sa) * 2 ^ 64) (signed128 (srcB s sb))) →
      exec (.div sa sb) s = .next (succeeded s (truncDiv (signed128 (srcA s sa) * 2 ^ 64) (signed128 (srcB s sb))))) ∧
    (signed128 (srcB s sb) ≠ 0 → ¬ Fits (truncDiv (signed128 (srcA s sa) * 2 ^ 64) (signed128 (srcB s sb))) →
      exec (.div sa sb) s = .next (failed s 2)) ∧
    (signed256 (srcB s sb) = 0 → exec (.divi sa sb) s = .next (failed s 3)) ∧
    (signed256 (srcB s sb) ≠ 0 → Fits (truncDiv (signed256 (srcA s sa) * 2 ^ 64) (signed256 (srcB s sb))) →
      exec (.divi sa sb) s = .next (succeeded s (truncDiv (signed256 (srcA s sa) * 2 ^ 64) (signed256 (srcB s sb))))) ∧
    (signed256 (srcB s sb) ≠ 0 → ¬ Fits (truncDiv (signed256 (srcA s sa) * 2 ^ 64) (signed256 (srcB s sb))) →
      exec (.divi sa sb) s = .next (failed s 2))

/-- R156: the floor of the quotient; DivisionByZero first, OverflowError exactly when it exceeds MAX. -/
def Obligations.DivuFloorsOrFails : Prop :=
  ∀ (sa sb : Src) (s : State), Word 0x1D sa sb 0 (.divu sa sb) ∧
    (unsigned256 (srcB s sb) = 0 → exec (.divu sa sb) s = .next (failed s 3)) ∧
    (unsigned256 (srcB s sb) ≠ 0 → unsigned256 (srcA s sa) * 2 ^ 64 / unsigned256 (srcB s sb) ≤ 2 ^ 127 - 1 →
      exec (.divu sa sb) s = .next (succeeded s (unsigned256 (srcA s sa) * 2 ^ 64 / unsigned256 (srcB s sb)))) ∧
    (unsigned256 (srcB s sb) ≠ 0 → 2 ^ 127 - 1 < unsigned256 (srcA s sa) * 2 ^ 64 / unsigned256 (srcB s sb) →
      exec (.divu sa sb) s = .next (failed s 2))

/-- R157: the reciprocal truncated toward zero; DivisionByZero at 0, OverflowError exactly at the raw values -1, 1 and 2. -/
def Obligations.InvFailsOnlyNearZero : Prop :=
  ∀ (sa : Src) (s : State), Word 0x1E sa .bus 0 (.inv sa) ∧
    (signed128 (srcA s sa) = 0 → exec (.inv sa) s = .next (failed s 3)) ∧
    (signed128 (srcA s sa) = -1 ∨ signed128 (srcA s sa) = 1 ∨ signed128 (srcA s sa) = 2 →
      exec (.inv sa) s = .next (failed s 2)) ∧
    (signed128 (srcA s sa) < -1 ∨ 2 < signed128 (srcA s sa) →
      exec (.inv sa) s = .next (succeeded s (truncDiv (2 ^ 128) (signed128 (srcA s sa)))))

/-- R158: the laws of multiplicative arithmetic, with the bound that replaces DOC0's one-ulp law. -/
def Obligations.MultiplicativeLaws : Prop :=
  ∀ s : State,
    (∀ x : Int, Fits x → Gives (.mul .bus .bus) s x (2 ^ 64) x) ∧
    (∀ x y v : Int, Gives (.mul .bus .bus) s x y v ↔ Gives (.mul .bus .bus) s y x v) ∧
    (∀ x y v : Int, Fits x → x ≠ -2 ^ 127 → Fits y → Fits v → v ≠ -2 ^ 127 → Gives (.mul .bus .bus) s x y v →
      Gives (.mul .bus .bus) s (-x) y (-v)) ∧
    (∀ (x y v : Int) (c : ErrCode), (Gives (.inv .bus) s x y v ↔ Gives (.div .bus .bus) s (2 ^ 64) x v) ∧
      (Fails (.inv .bus) s x y c ↔ Fails (.div .bus .bus) s (2 ^ 64) x c)) ∧
    (∀ x y q m : Int, Fits x → Fits y → Fits q → Fits m → Gives (.div .bus .bus) s x y q → Gives (.mul .bus .bus) s q y m →
      (m = 0 ∨ m.sign = x.sign) ∧ 0 ≤ |x| - |m| ∧ |x| - |m| ≤ (|y| - 1 + (2 ^ 64 - 1)) / 2 ^ 64 ∧
      (y ∣ x * 2 ^ 64 → m = x) ∧ (|y| ≤ 2 ^ 64 + 1 → |x - m| ≤ 1))

/-! ### Geometric and transcendental operations -/

/-- R180: the exact floor of the root of the product; DomainError exactly for a negative product, OverflowError exactly when
both operands are MIN. -/
def Obligations.GavgIsTheFloorRootOfTheProduct : Prop :=
  ∀ (sa sb : Src) (s : State), Word 0x20 sa sb 0 (.gavg sa sb) ∧
    (signed128 (srcA s sa) * signed128 (srcB s sb) < 0 → exec (.gavg sa sb) s = .next (failed s 4)) ∧
    (signed128 (srcA s sa) = -2 ^ 127 → signed128 (srcB s sb) = -2 ^ 127 → exec (.gavg sa sb) s = .next (failed s 2)) ∧
    (0 ≤ signed128 (srcA s sa) * signed128 (srcB s sb) →
      ¬ (signed128 (srcA s sa) = -2 ^ 127 ∧ signed128 (srcB s sb) = -2 ^ 127) →
      ∃ r : Int, 0 ≤ r ∧ r * r ≤ signed128 (srcA s sa) * signed128 (srcB s sb) ∧
        signed128 (srcA s sa) * signed128 (srcB s sb) < (r + 1) * (r + 1) ∧ exec (.gavg sa sb) s = .next (succeeded s r))

/-- R181: the while loop of the rule always ends, and POW commits what it ends with or raises OverflowError. -/
def Obligations.PowRunsTheSquareAndMultiplyLoop : Prop :=
  ∀ (sa sb : Src) (s : State), Word 0x21 sa sb 0 (.pow sa sb) ∧
    (∃ r, PowLoop (2 ^ 64) (signed128 (srcA s sa)) (srcB s sb).toNat r) ∧
    (∀ v, PowLoop (2 ^ 64) (signed128 (srcA s sa)) (srcB s sb).toNat (some v) →
      exec (.pow sa sb) s = .next (succeeded s v)) ∧
    (PowLoop (2 ^ 64) (signed128 (srcA s sa)) (srcB s sb).toNat none → exec (.pow sa sb) s = .next (failed s 2))

/-- R182: the exact floor square root; DomainError exactly for a negative operand. -/
def Obligations.SqrtIsTheFloorRoot : Prop :=
  ∀ (sa : Src) (s : State), Word 0x22 sa .bus 0 (.sqrt sa) ∧
    (signed128 (srcA s sa) < 0 → exec (.sqrt sa) s = .next (failed s 4)) ∧
    (0 ≤ signed128 (srcA s sa) → ∃ r : Int, 0 ≤ r ∧ r < 2 ^ 96 ∧ r * r ≤ signed128 (srcA s sa) * 2 ^ 64 ∧
      signed128 (srcA s sa) * 2 ^ 64 < (r + 1) * (r + 1) ∧ exec (.sqrt sa) s = .next (succeeded s r))

/-- R184 with R183's core: DomainError exactly for an operand that is not positive; else the integer component from the most
significant bit and 64 bits of the squaring recurrence, at least `-64.ONE` and below `63.ONE`. -/
def Obligations.Log2IsTheBitRecurrence : Prop :=
  ∀ (sa : Src) (s : State), Word 0x23 sa .bus 0 (.log2 sa) ∧
    (signed128 (srcA s sa) ≤ 0 → exec (.log2 sa) s = .next (failed s 4)) ∧
    (0 < signed128 (srcA s sa) → ∃ msb : Nat, 2 ^ msb ≤ signed128 (srcA s sa) ∧ signed128 (srcA s sa) < 2 ^ (msb + 1) ∧
      -64 * 2 ^ 64 ≤ log2Value (signed128 (srcA s sa)).toNat msb ∧ log2Value (signed128 (srcA s sa)).toNat msb < 63 * 2 ^ 64 ∧
      exec (.log2 sa) s = .next (succeeded s (log2Value (signed128 (srcA s sa)).toNat msb)))

/-- R185: the logarithm of R183 times LN2_64x64, truncated toward zero, of magnitude at most 64 LN2_64x64; DomainError as for
LOG2; never OverflowError. -/
def Obligations.LnIsLog2TimesLn2 : Prop :=
  ∀ (sa : Src) (s : State), Word 0x24 sa .bus 0 (.ln sa) ∧
    (signed128 (srcA s sa) ≤ 0 → exec (.ln sa) s = .next (failed s 4)) ∧
    (0 < signed128 (srcA s sa) → ∃ msb : Nat, 2 ^ msb ≤ signed128 (srcA s sa) ∧ signed128 (srcA s sa) < 2 ^ (msb + 1) ∧
      Fits (truncDiv (log2Value (signed128 (srcA s sa)).toNat msb * 12786308645202655659) (2 ^ 64)) ∧
      |truncDiv (log2Value (signed128 (srcA s sa)).toNat msb * 12786308645202655659) (2 ^ 64)| ≤ 64 * 12786308645202655659 ∧
      exec (.ln sa) s =
        .next (succeeded s (truncDiv (log2Value (signed128 (srcA s sa)).toNat msb * 12786308645202655659) (2 ^ 64))))

/-- R186, R188, with the spec's default table, which the model takes (assumption 5): the 64 entries are those R187 lists, each
between `2^128` and `2^129`, and each the root of the one before as their definition needs; OverflowError exactly from
`63.ONE` on, 0 below `-64.ONE`, and between them the value of the 64 steps. -/
def Obligations.Exp2IsTheTableExpansion : Prop :=
  (∀ k : Nat, 1 ≤ k → k ≤ 64 → exp2Table k = exp2Entry k ∧ 2 ^ 128 < exp2Entry k ∧ exp2Entry k < 2 ^ 129) ∧
  (exp2Entry 1 ^ 2 ≤ 2 ^ 257 ∧ 2 ^ 257 < (exp2Entry 1 + 1) ^ 2) ∧
  (∀ k : Nat, 1 ≤ k → k ≤ 63 → exp2Entry (k + 1) ^ 2 < (exp2Entry k + 1) * 2 ^ 128 ∧
    exp2Entry k * 2 ^ 128 < (exp2Entry (k + 1) + 1) ^ 2) ∧
  ∀ (sa : Src) (s : State), Word 0x25 sa .bus 0 (.exp2 sa) ∧
    (63 * 2 ^ 64 ≤ signed128 (srcA s sa) → exec (.exp2 sa) s = .next (failed s 2)) ∧
    (signed128 (srcA s sa) < -64 * 2 ^ 64 → exec (.exp2 sa) s = .next (succeeded s 0)) ∧
    (-64 * 2 ^ 64 ≤ signed128 (srcA s sa) → signed128 (srcA s sa) < 63 * 2 ^ 64 →
      Fits (exp2Value (signed128 (srcA s sa))) ∧ exec (.exp2 sa) s = .next (succeeded s (exp2Value (signed128 (srcA s sa)))))

/-- R189, with the spec's default table, which the model takes (assumption 5): EXP reduces to EXP2 by LOG2E_64x64, and raises
OverflowError exactly from 805537444647767306582 on. -/
def Obligations.ExpReducesToExp2 : Prop :=
  ∀ (sa : Src) (s : State), Word 0x26 sa .bus 0 (.exp sa) ∧
    (805537444647767306582 ≤ signed128 (srcA s sa) → exec (.exp sa) s = .next (failed s 2)) ∧
    (signed128 (srcA s sa) < -64 * 2 ^ 64 → exec (.exp sa) s = .next (succeeded s 0)) ∧
    (-64 * 2 ^ 64 ≤ signed128 (srcA s sa) → signed128 (srcA s sa) ≤ 805537444647767306581 →
      (truncDiv (signed128 (srcA s sa) * 26613026195688644983) (2 ^ 64) < -64 * 2 ^ 64 →
        exec (.exp sa) s = .next (succeeded s 0)) ∧
      (-64 * 2 ^ 64 ≤ truncDiv (signed128 (srcA s sa) * 26613026195688644983) (2 ^ 64) →
        exec (.exp sa) s =
          .next (succeeded s (exp2Value (truncDiv (signed128 (srcA s sa) * 26613026195688644983) (2 ^ 64))))))

/-- R190, the laws of the roots: SQRT of a perfect square is exact; GAVG of equal operands is their magnitude; GAVG with ONE is
SQRT; GAVG is commutative. -/
def Obligations.RootLaws : Prop :=
  ∀ s : State,
    (∀ k y : Int, 0 ≤ k → k * k < 2 ^ 63 → Gives (.sqrt .bus) s (k * k * 2 ^ 64) y (k * 2 ^ 64)) ∧
    (∀ x : Int, Fits x → x ≠ -2 ^ 127 → Gives (.gavg .bus .bus) s x x |x|) ∧
    (∀ x y : Int, Fits x → 0 ≤ x → ∃ v, Gives (.gavg .bus .bus) s x (2 ^ 64) v ∧ Gives (.sqrt .bus) s x y v) ∧
    (∀ x y v : Int, Gives (.gavg .bus .bus) s x y v ↔ Gives (.gavg .bus .bus) s y x v)

/-- R190, the laws of LOG2 and EXP2: exact at the powers of two, and LOG2 does not decrease. EXP2 is with the spec's default
table (assumption 5). -/
def Obligations.LogAndExpLaws : Prop :=
  ∀ (s : State) (y : Int),
    (∀ n : Nat, n ≤ 126 → Gives (.log2 .bus) s (2 ^ n) y (((n : Int) - 64) * 2 ^ 64)) ∧
    (∀ n : Nat, n ≤ 126 → Gives (.exp2 .bus) s (((n : Int) - 64) * 2 ^ 64) y (2 ^ n)) ∧
    (∀ x x' v v' : Int, 0 < x → x ≤ x' → Fits x' → Fits v → Fits v' → Gives (.log2 .bus) s x y v →
      Gives (.log2 .bus) s x' y v' → v ≤ v')

/-- R190, the laws of POW: exponents 0, 1 and 2, and no error for a base of magnitude at most ONE. -/
def Obligations.PowLaws : Prop :=
  ∀ s : State,
    (∀ x : Int, Fits x → Gives (.pow .bus .bus) s x 0 (2 ^ 64) ∧ Gives (.pow .bus .bus) s x 1 x) ∧
    (∀ (x v : Int) (c : ErrCode), (Gives (.pow .bus .bus) s x 2 v ↔ Gives (.mul .bus .bus) s x x v) ∧
      (Fails (.pow .bus .bus) s x 2 c ↔ Fails (.mul .bus .bus) s x x c)) ∧
    (∀ x n : Int, |x| ≤ 2 ^ 64 → 0 ≤ n → n < 2 ^ 256 → ∃ v, |v| ≤ 2 ^ 64 ∧ Gives (.pow .bus .bus) s x n v)

/-! ### Control commands -/

/-- R220, R223: NOP and CLRST have one legal word each; they answer RES with no error and clear LASTERR; CLRST clears STICKY
too; RES stays. No other command clears STICKY, and a reset edge does. -/
def Obligations.NopAndClrstKeepRes : Prop :=
  ∀ s : State, (∀ w : CmdWord, decode w = .ok .nop ↔ w = 0x00000000) ∧ (∀ w : CmdWord, decode w = .ok .clrst ↔ w = 0x00000032) ∧
    exec .nop s = .next { s with lastErr := 0, rspRes := s.res, rspErr := 0 } ∧
    exec .clrst s = .next { s with lastErr := 0, sticky := false, rspRes := s.res, rspErr := 0 } ∧
    (∀ (i : Instr) (t : State), exec i s = .next t → s.sticky = true → t.sticky = false → i = .clrst) ∧
    (s.ports.rst = true → ∃ t, step s = .next t ∧ t.sticky = false)

/-- R221: MOV commits all 256 bits of A; MOV RES leaves RES unchanged. -/
def Obligations.MovCommitsAllBits : Prop :=
  ∀ (sa : Src) (s : State), Word 0x30 sa .bus 0 (.mov sa) ∧
    exec (.mov sa) s = .next { s with res := srcA s sa, lastErr := 0, rspRes := srcA s sa, rspErr := 0 }

/-- R222: LDC commits the constant of its index, 0 to 4 (R42); a word with an index above 4 is no command and raises
IllegalCommand. -/
def Obligations.LdcCommitsTheConstant : Prop :=
  ∀ (k : BitVec 8) (s : State),
    (k.toNat ≤ 4 → Word 0x31 .bus .bus k (.ldc k)) ∧
    (k.toNat = 0 → exec (.ldc k) s = .next (succeeded s (2 ^ 64))) ∧
    (k.toNat = 1 → exec (.ldc k) s = .next (succeeded s (-2 ^ 127))) ∧
    (k.toNat = 2 → exec (.ldc k) s = .next (succeeded s (2 ^ 127 - 1))) ∧
    (k.toNat = 3 → exec (.ldc k) s = .next (succeeded s 50143449209799256682)) ∧
    (k.toNat = 4 → exec (.ldc k) s = .next (succeeded s 57952155664616982739)) ∧
    (4 < k.toNat → decode (BitVec.ofNat 32 (0x31 + k.toNat * 2 ^ 8)) = .error .romIndex ∧ ∀ a b : Bus,
      s.execCommand ⟨BitVec.ofNat 32 (0x31 + k.toNat * 2 ^ 8), a, b⟩ =
        .next (failed { s with host := Command.ports ⟨BitVec.ofNat 32 (0x31 + k.toNat * 2 ^ 8), a, b⟩ :: s.host } 5))
end

