-- ==== Sys2Proof/Laws/Arith.lean ====
section
/-! SUPPORT. What the integer primitives compute, said once each. -/

namespace Sys2Proof.Machine

/-- The floor quotient by a positive divisor is Lean's rounding-down division. -/
theorem fdiv_eq_ediv (a : Int) {b : Int} (hb : 0 ≤ b) : fdiv a b = a / b := Int.fdiv_eq_ediv_of_nonneg a hb

/-- The arithmetic right shift is the division by the power of two. -/
theorem sar_eq_ediv (a : Int) (k : Nat) : sar a k = a / 2 ^ k := fdiv_eq_ediv a (by positivity)

/-- A check of the 64.64 range either keeps the value or raises OverflowError. -/
theorem narrow_eq (r : Int) : (inRange64x64 r ∧ narrow r = .ok r) ∨ (¬ inRange64x64 r ∧ narrow r = .error .overflowError) := by
  unfold narrow
  split_ifs with h
  · exact .inl ⟨h, rfl⟩
  · exact .inr ⟨h, rfl⟩

/-- The bit-by-bit root: from an `r` that is low enough, with `n` below `(r + 2^k)^2`, it ends at the floor of the root. -/
theorem isqrtFrom_spec (n : Nat) : ∀ k r, r * r ≤ n → n < (r + 2 ^ k) * (r + 2 ^ k) →
    isqrtFrom n k r * isqrtFrom n k r ≤ n ∧ n < (isqrtFrom n k r + 1) * (isqrtFrom n k r + 1)
  | 0, _, hl, hu => ⟨hl, by simpa [isqrtFrom] using hu⟩
  | k + 1, r, hl, hu => by
    unfold isqrtFrom
    split_ifs with h
    · refine isqrtFrom_spec n k _ h ?_
      rwa [show r + 2 ^ k + 2 ^ k = r + 2 ^ (k + 1) by ring]
    · exact isqrtFrom_spec n k r hl (by omega)

/-- `isqrt` is the floor of the square root (R16). -/
theorem isqrt_spec (n : Nat) : isqrt n * isqrt n ≤ n ∧ n < (isqrt n + 1) * (isqrt n + 1) := by
  refine isqrtFrom_spec n _ 0 (Nat.zero_le n) ?_
  have h : n < 2 ^ bitlen n := Nat.lt_log2_self
  calc n < 2 ^ bitlen n := h
    _ ≤ 2 ^ bitlen n * 2 ^ bitlen n := Nat.le_mul_of_pos_left _ (by positivity)
    _ = (0 + 2 ^ bitlen n) * (0 + 2 ^ bitlen n) := by ring

/-- The most significant bit of a positive number (R16). -/
theorem bitlen_spec {x : Nat} (hx : 0 < x) : 2 ^ (bitlen x - 1) ≤ x ∧ x < 2 ^ bitlen x :=
  ⟨by simpa [bitlen] using Nat.log2_self_le (by omega), Nat.lt_log2_self⟩

end Sys2Proof.Machine
end

