-- ==== Sys2Proof/Laws/Decode.lean ====
section
/-! SUPPORT. The fields of a word put together from fields, and a word taken apart into its fields. -/

namespace Sys2Proof

/-- Every bit of a word is a bit of one of its fields (R84). -/
theorem wordOf_getLsbD (op : BitVec 6) (sa sb : BitVec 1) (imm : BitVec 8) (i : Nat) :
    (wordOf op sa sb imm).getLsbD i =
      if i < 6 then op.getLsbD i else if i < 7 then sa.getLsbD (i - 6) else if i < 8 then sb.getLsbD (i - 7)
      else if i < 16 then imm.getLsbD (i - 8) else false := by
  change BitVec.getLsbD (w := 16 + (8 + (1 + (1 + 6)))) (0#16 ++ (imm ++ (sb ++ (sa ++ op)))) i = _
  simp only [BitVec.getLsbD_append]
  split_ifs <;> first | omega | simp

variable (op : BitVec 6) (sa sb : BitVec 1) (imm : BitVec 8)

@[simp] theorem opField_wordOf : opField (wordOf op sa sb imm) = op := by
  apply BitVec.eq_of_getLsbD_eq; intro i hi
  simp [opField, wordOf_getLsbD, hi]

@[simp] theorem saField_wordOf : saField (wordOf op sa sb imm) = sa := by
  apply BitVec.eq_of_getLsbD_eq; intro i hi
  obtain rfl : i = 0 := by omega
  rw [saField, BitVec.getLsbD_extractLsb', wordOf_getLsbD]; simp

@[simp] theorem sbField_wordOf : sbField (wordOf op sa sb imm) = sb := by
  apply BitVec.eq_of_getLsbD_eq; intro i hi
  obtain rfl : i = 0 := by omega
  rw [sbField, BitVec.getLsbD_extractLsb', wordOf_getLsbD]; simp

@[simp] theorem immField_wordOf : immField (wordOf op sa sb imm) = imm := by
  apply BitVec.eq_of_getLsbD_eq; intro i hi
  simp [immField, wordOf_getLsbD, hi, show ¬ 8 + i < 6 by omega, show ¬ 8 + i < 7 by omega, show 8 + i < 16 by omega]

@[simp] theorem rsvField_wordOf : rsvField (wordOf op sa sb imm) = 0#16 := by
  apply BitVec.eq_of_getLsbD_eq; intro i hi
  simp [rsvField, wordOf_getLsbD, show ¬ 16 + i < 6 by omega, show ¬ 16 + i < 7 by omega, show ¬ 16 + i < 8 by omega]

/-- A word whose reserved bits are 0 is the word of its fields. -/
theorem wordOf_fields (w : CmdWord) (h : rsvField w = 0#16) : wordOf (opField w) (saField w) (sbField w) (immField w) = w := by
  apply BitVec.eq_of_getLsbD_eq; intro i hi
  simp only [wordOf_getLsbD, opField, saField, sbField, immField, BitVec.getLsbD_extractLsb']
  have hr : 16 ≤ i → w.getLsbD i = false := by
    intro h16
    have := congrArg (fun v => v.getLsbD (i - 16)) h
    simpa [rsvField, show i - 16 < 16 by omega, show 16 + (i - 16) = i by omega] using this
  split_ifs with h1 h2 h3 h4
  · simp [h1]
  · simp [show i - 6 < 1 by omega, show 6 + (i - 6) = i by omega]
  · simp [show i - 7 < 1 by omega, show 7 + (i - 7) = i by omega]
  · simp [show i - 8 < 8 by omega, show 8 + (i - 8) = i by omega]
  · exact (hr (by omega)).symm

@[simp] theorem srcOfBit_bit (x : Src) : srcOfBit x.bit = x := by cases x <;> rfl

/-- The fixed bits of a row with an immediate: a mask that leaves IMM out does not see it. -/
theorem rowBits_imm (mask m : CmdWord) (hm : mask &&& 0x0000FF00#32 = 0#32) (h : wordOf op sa sb 0#8 &&& mask = m) :
    wordOf op sa sb imm &&& mask = m := by
  rw [← h]
  apply BitVec.eq_of_getLsbD_eq; intro i hi
  simp only [BitVec.getLsbD_and, wordOf_getLsbD]
  by_cases h8 : 8 ≤ i ∧ i < 16
  · have hb : (0x0000FF00#32).getLsbD i = true := by
      obtain ⟨h1, h2⟩ := h8
      interval_cases i <;> rfl
    have hz := congrArg (fun v => v.getLsbD i) hm
    simp only [BitVec.getLsbD_and, hb, Bool.and_true, BitVec.getLsbD_zero] at hz
    rw [hz, Bool.and_false, Bool.and_false]
  · split_ifs <;> first | rfl | omega

end Sys2Proof
end

