-- ==== Sys2Proof/Laws/State.lean ====
section
/-! SUPPORT. One lemma per field per update of the state, so that no later proof unfolds a record update. -/

namespace Sys2Proof.Machine

variable (s : State)

@[simp] theorem commit_res (v : Int) : (s.commit v).res = BitVec.ofInt 256 v := rfl
@[simp] theorem commit_lastErr (v : Int) : (s.commit v).lastErr = 0#3 := rfl
@[simp] theorem commit_sticky (v : Int) : (s.commit v).sticky = s.sticky := rfl
@[simp] theorem commit_phase (v : Int) : (s.commit v).phase = s.phase := rfl
@[simp] theorem commit_cw (v : Int) : (s.commit v).cw = s.cw := rfl
@[simp] theorem commit_opA (v : Int) : (s.commit v).opA = s.opA := rfl
@[simp] theorem commit_opB (v : Int) : (s.commit v).opB = s.opB := rfl
@[simp] theorem commit_outcome (v : Int) : (s.commit v).outcome = s.outcome := rfl
@[simp] theorem commit_cnt (v : Int) : (s.commit v).cnt = s.cnt := rfl
@[simp] theorem commit_rspRes (v : Int) : (s.commit v).rspRes = BitVec.ofInt 256 v := rfl
@[simp] theorem commit_rspErr (v : Int) : (s.commit v).rspErr = 0#3 := rfl
@[simp] theorem commit_host (v : Int) : (s.commit v).host = s.host := rfl
@[simp] theorem commit_draws (v : Int) : (s.commit v).draws = s.draws := rfl
@[simp] theorem commit_edges (v : Int) : (s.commit v).edges = s.edges := rfl

@[simp] theorem commitNone_res : s.commitNone.res = s.res := rfl
@[simp] theorem commitNone_lastErr : s.commitNone.lastErr = 0#3 := rfl
@[simp] theorem commitNone_sticky : s.commitNone.sticky = s.sticky := rfl
@[simp] theorem commitNone_phase : s.commitNone.phase = s.phase := rfl
@[simp] theorem commitNone_cw : s.commitNone.cw = s.cw := rfl
@[simp] theorem commitNone_opA : s.commitNone.opA = s.opA := rfl
@[simp] theorem commitNone_opB : s.commitNone.opB = s.opB := rfl
@[simp] theorem commitNone_outcome : s.commitNone.outcome = s.outcome := rfl
@[simp] theorem commitNone_cnt : s.commitNone.cnt = s.cnt := rfl
@[simp] theorem commitNone_rspRes : s.commitNone.rspRes = s.res := rfl
@[simp] theorem commitNone_rspErr : s.commitNone.rspErr = 0#3 := rfl
@[simp] theorem commitNone_host : s.commitNone.host = s.host := rfl
@[simp] theorem commitNone_draws : s.commitNone.draws = s.draws := rfl
@[simp] theorem commitNone_edges : s.commitNone.edges = s.edges := rfl

@[simp] theorem raise_res (e : ErrorKind) : (s.raise e).res = s.res := rfl
@[simp] theorem raise_lastErr (e : ErrorKind) : (s.raise e).lastErr = e.code := rfl
@[simp] theorem raise_sticky (e : ErrorKind) : (s.raise e).sticky = true := rfl
@[simp] theorem raise_phase (e : ErrorKind) : (s.raise e).phase = s.phase := rfl
@[simp] theorem raise_cw (e : ErrorKind) : (s.raise e).cw = s.cw := rfl
@[simp] theorem raise_opA (e : ErrorKind) : (s.raise e).opA = s.opA := rfl
@[simp] theorem raise_opB (e : ErrorKind) : (s.raise e).opB = s.opB := rfl
@[simp] theorem raise_outcome (e : ErrorKind) : (s.raise e).outcome = s.outcome := rfl
@[simp] theorem raise_cnt (e : ErrorKind) : (s.raise e).cnt = s.cnt := rfl
@[simp] theorem raise_rspRes (e : ErrorKind) : (s.raise e).rspRes = 0#256 := rfl
@[simp] theorem raise_rspErr (e : ErrorKind) : (s.raise e).rspErr = e.code := rfl
@[simp] theorem raise_host (e : ErrorKind) : (s.raise e).host = s.host := rfl
@[simp] theorem raise_draws (e : ErrorKind) : (s.raise e).draws = s.draws := rfl
@[simp] theorem raise_edges (e : ErrorKind) : (s.raise e).edges = s.edges := rfl

@[simp] theorem clearSticky_res : s.clearSticky.res = s.res := rfl
@[simp] theorem clearSticky_lastErr : s.clearSticky.lastErr = s.lastErr := rfl
@[simp] theorem clearSticky_sticky : s.clearSticky.sticky = false := rfl
@[simp] theorem clearSticky_phase : s.clearSticky.phase = s.phase := rfl
@[simp] theorem clearSticky_cw : s.clearSticky.cw = s.cw := rfl
@[simp] theorem clearSticky_opA : s.clearSticky.opA = s.opA := rfl
@[simp] theorem clearSticky_opB : s.clearSticky.opB = s.opB := rfl
@[simp] theorem clearSticky_outcome : s.clearSticky.outcome = s.outcome := rfl
@[simp] theorem clearSticky_cnt : s.clearSticky.cnt = s.cnt := rfl
@[simp] theorem clearSticky_rspRes : s.clearSticky.rspRes = s.rspRes := rfl
@[simp] theorem clearSticky_rspErr : s.clearSticky.rspErr = s.rspErr := rfl
@[simp] theorem clearSticky_host : s.clearSticky.host = s.host := rfl
@[simp] theorem clearSticky_draws : s.clearSticky.draws = s.draws := rfl
@[simp] theorem clearSticky_edges : s.clearSticky.edges = s.edges := rfl

@[simp] theorem tick_res : s.tick.res = s.res := rfl
@[simp] theorem tick_lastErr : s.tick.lastErr = s.lastErr := rfl
@[simp] theorem tick_sticky : s.tick.sticky = s.sticky := rfl
@[simp] theorem tick_phase : s.tick.phase = s.phase := rfl
@[simp] theorem tick_cw : s.tick.cw = s.cw := rfl
@[simp] theorem tick_opA : s.tick.opA = s.opA := rfl
@[simp] theorem tick_opB : s.tick.opB = s.opB := rfl
@[simp] theorem tick_outcome : s.tick.outcome = s.outcome := rfl
@[simp] theorem tick_cnt : s.tick.cnt = s.cnt := rfl
@[simp] theorem tick_rspRes : s.tick.rspRes = s.rspRes := rfl
@[simp] theorem tick_rspErr : s.tick.rspErr = s.rspErr := rfl
@[simp] theorem tick_host : s.tick.host = s.host.tail := rfl
@[simp] theorem tick_draws : s.tick.draws = s.draws := rfl
@[simp] theorem tick_edges : s.tick.edges = s.edges + 1 := rfl

@[simp] theorem latch_res (t : State) : (s.latch t).res = s.res := rfl
@[simp] theorem latch_lastErr (t : State) : (s.latch t).lastErr = s.lastErr := rfl
@[simp] theorem latch_sticky (t : State) : (s.latch t).sticky = s.sticky := rfl
@[simp] theorem latch_phase (t : State) : (s.latch t).phase = .busy := rfl
@[simp] theorem latch_cw (t : State) : (s.latch t).cw = s.ports.cmd := rfl
@[simp] theorem latch_opA (t : State) : (s.latch t).opA = s.selectedA := rfl
@[simp] theorem latch_opB (t : State) : (s.latch t).opB = s.selectedB := rfl
@[simp] theorem latch_outcome (t : State) : (s.latch t).outcome = t.outcomeOf := rfl
@[simp] theorem latch_cnt (t : State) : (s.latch t).cnt = s.latency := rfl
@[simp] theorem latch_rspRes (t : State) : (s.latch t).rspRes = s.rspRes := rfl
@[simp] theorem latch_rspErr (t : State) : (s.latch t).rspErr = s.rspErr := rfl
@[simp] theorem latch_host (t : State) : (s.latch t).host = s.host := rfl
@[simp] theorem latch_draws (t : State) : (s.latch t).draws = s.draws.tail := rfl
@[simp] theorem latch_edges (t : State) : (s.latch t).edges = s.edges := rfl

@[simp] theorem complete_res : s.complete.res = s.outcome.res := rfl
@[simp] theorem complete_lastErr : s.complete.lastErr = s.outcome.lastErr := rfl
@[simp] theorem complete_sticky : s.complete.sticky = s.outcome.sticky := rfl
@[simp] theorem complete_phase : s.complete.phase = .resp := rfl
@[simp] theorem complete_cw : s.complete.cw = 0 := rfl
@[simp] theorem complete_opA : s.complete.opA = 0 := rfl
@[simp] theorem complete_opB : s.complete.opB = 0 := rfl
@[simp] theorem complete_outcome : s.complete.outcome = ExecOutcome.none := rfl
@[simp] theorem complete_cnt : s.complete.cnt = 0 := rfl
@[simp] theorem complete_rspRes : s.complete.rspRes = s.outcome.rspRes := rfl
@[simp] theorem complete_rspErr : s.complete.rspErr = s.outcome.rspErr := rfl
@[simp] theorem complete_host : s.complete.host = s.host := rfl
@[simp] theorem complete_draws : s.complete.draws = s.draws := rfl
@[simp] theorem complete_edges : s.complete.edges = s.edges := rfl

@[simp] theorem consume_res : s.consume.res = s.res := rfl
@[simp] theorem consume_lastErr : s.consume.lastErr = s.lastErr := rfl
@[simp] theorem consume_sticky : s.consume.sticky = s.sticky := rfl
@[simp] theorem consume_phase : s.consume.phase = .idle := rfl
@[simp] theorem consume_cw : s.consume.cw = s.cw := rfl
@[simp] theorem consume_opA : s.consume.opA = s.opA := rfl
@[simp] theorem consume_opB : s.consume.opB = s.opB := rfl
@[simp] theorem consume_outcome : s.consume.outcome = s.outcome := rfl
@[simp] theorem consume_cnt : s.consume.cnt = s.cnt := rfl
@[simp] theorem consume_rspRes : s.consume.rspRes = 0 := rfl
@[simp] theorem consume_rspErr : s.consume.rspErr = 0 := rfl
@[simp] theorem consume_host : s.consume.host = s.host := rfl
@[simp] theorem consume_draws : s.consume.draws = s.draws := rfl
@[simp] theorem consume_edges : s.consume.edges = s.edges := rfl

@[simp] theorem resetBlock_res : s.resetBlock.res = 0 := rfl
@[simp] theorem resetBlock_lastErr : s.resetBlock.lastErr = 0 := rfl
@[simp] theorem resetBlock_sticky : s.resetBlock.sticky = false := rfl
@[simp] theorem resetBlock_phase : s.resetBlock.phase = .idle := rfl
@[simp] theorem resetBlock_cw : s.resetBlock.cw = 0 := rfl
@[simp] theorem resetBlock_opA : s.resetBlock.opA = 0 := rfl
@[simp] theorem resetBlock_opB : s.resetBlock.opB = 0 := rfl
@[simp] theorem resetBlock_outcome : s.resetBlock.outcome = ExecOutcome.none := rfl
@[simp] theorem resetBlock_cnt : s.resetBlock.cnt = 0 := rfl
@[simp] theorem resetBlock_rspRes : s.resetBlock.rspRes = 0 := rfl
@[simp] theorem resetBlock_rspErr : s.resetBlock.rspErr = 0 := rfl
@[simp] theorem resetBlock_host : s.resetBlock.host = s.host := rfl
@[simp] theorem resetBlock_draws : s.resetBlock.draws = s.draws := rfl
@[simp] theorem resetBlock_edges : s.resetBlock.edges = s.edges := rfl

@[simp] theorem commit_outcomeOf (v : Int) : (s.commit v).outcomeOf = ⟨BitVec.ofInt 256 v, 0#3, s.sticky, BitVec.ofInt 256 v, 0#3⟩ := rfl
@[simp] theorem commitNone_outcomeOf : s.commitNone.outcomeOf = ⟨s.res, 0#3, s.sticky, s.res, 0#3⟩ := rfl
@[simp] theorem raise_outcomeOf (e : ErrorKind) : (s.raise e).outcomeOf = ⟨s.res, e.code, true, 0#256, e.code⟩ := rfl
@[simp] theorem complete_outcomeOf : s.complete.outcomeOf = s.outcome := rfl

end Sys2Proof.Machine
end

