-- ==== Sys2Proof/Laws/Ops.lean ====
section
/-! SUPPORT. What the shared operations and the step can do, said once each. -/

namespace Sys2Proof.Machine

/-- The port values the state lists for the next edge. -/
@[simp] theorem ports_cons (s : State) (p : Ports) (l : List Ports) : State.ports { s with host := p :: l } = p := rfl

/-- A rule's ending is a commit of its value or a raise of its error. -/
theorem finish_cases (s : State) (r : Except ErrorKind Int) :
    (∃ v, r = .ok v ∧ s.finish r = s.commit v) ∨ (∃ e, r = .error e ∧ s.finish r = s.raise e) := by
  cases r with
  | ok v => exact .inl ⟨v, rfl, rfl⟩
  | error e => exact .inr ⟨e, rfl, rfl⟩

/-- Every command ends in exactly one of the endings of R47; CLRST clears STICKY first (R223). -/
theorem exec_ending (i : Instr) (s : State) : ∃ t, exec i s = .next t ∧
    ((∃ v, t = s.commit v) ∨ (∃ e, t = s.raise e) ∨ t = s.commitNone ∨ (i = .clrst ∧ t = s.clearSticky.commitNone)) := by
  have h (r : Except ErrorKind Int) : (∃ v, s.finish r = s.commit v) ∨ (∃ e, s.finish r = s.raise e) := by
    rcases finish_cases s r with ⟨v, -, h⟩ | ⟨e, -, h⟩
    · exact .inl ⟨v, h⟩
    · exact .inr ⟨e, h⟩
  have done (r : Except ErrorKind Int) : ∃ t, (.next (s.finish r) : Host.Outcome State Fault Refusal) = .next t ∧
      ((∃ v, t = s.commit v) ∨ (∃ e, t = s.raise e) ∨ t = s.commitNone ∨ (i = .clrst ∧ t = s.clearSticky.commitNone)) :=
    ⟨_, rfl, (h r).imp_right .inl⟩
  cases i with
  | nop => exact ⟨_, rfl, .inr (.inr (.inl rfl))⟩
  | mov sa => exact ⟨_, rfl, .inl ⟨_, rfl⟩⟩
  | clrst => exact ⟨_, rfl, .inr (.inr (.inr ⟨rfl, rfl⟩))⟩
  | ldc k =>
    refine ⟨_, rfl, ?_⟩
    cases rom k with
    | some v => exact .inl ⟨v, rfl⟩
    | none => exact .inr (.inl ⟨_, rfl⟩)
  | _ => exact done _

/-- The word at the ports always has an outcome, with one of the endings of R47. -/
theorem execWord_ending (s : State) : ∃ t, s.execWord = .next t ∧
    ((∃ v, t = s.commit v) ∨ (∃ e, t = s.raise e) ∨ t = s.commitNone ∨ t = s.clearSticky.commitNone) := by
  unfold State.execWord
  cases decode s.ports.cmd with
  | error e => exact ⟨_, rfl, .inr (.inl ⟨_, rfl⟩)⟩
  | ok i =>
    obtain ⟨t, ht, h⟩ := exec_ending i s
    exact ⟨t, ht, h.imp_right (.imp_right (.imp_right And.right))⟩

/-- One edge does one of six things (R51 to R54, R270). -/
theorem step_cases (s : State) : ∃ t, step s = .next t ∧
    ((s.ports.rst = true ∧ t = s.resetBlock.tick) ∨
     (s.ports.rst = false ∧ s.phase = .idle ∧ s.ports.cmdValid = true ∧ ∃ u, s.execWord = .next u ∧ t = (s.latch u).tick) ∨
     (s.ports.rst = false ∧ s.phase = .idle ∧ s.ports.cmdValid = false ∧ t = s.tick) ∨
     (s.ports.rst = false ∧ s.phase = .busy ∧ t = s.countDown.tick) ∨
     (s.ports.rst = false ∧ s.phase = .resp ∧ s.ports.rspReady = true ∧ t = s.consume.tick) ∨
     (s.ports.rst = false ∧ s.phase = .resp ∧ s.ports.rspReady = false ∧ t = s.tick)) := by
  unfold step State.clockEdge
  cases hr : s.ports.rst with
  | true => exact ⟨_, rfl, .inl ⟨rfl, rfl⟩⟩
  | false =>
    cases hp : s.phase with
    | idle =>
      cases hv : s.ports.cmdValid with
      | true =>
        obtain ⟨u, hu, -⟩ := execWord_ending s
        exact ⟨(s.latch u).tick, by simp [State.acceptEdge, hu], .inr (.inl ⟨rfl, rfl, rfl, u, hu, rfl⟩)⟩
      | false => exact ⟨_, rfl, .inr (.inr (.inl ⟨rfl, rfl, rfl, rfl⟩))⟩
    | busy => exact ⟨_, rfl, .inr (.inr (.inr (.inl ⟨rfl, rfl, rfl⟩)))⟩
    | resp =>
      cases hy : s.ports.rspReady with
      | true => exact ⟨_, rfl, .inr (.inr (.inr (.inr (.inl ⟨rfl, rfl, rfl, rfl⟩))))⟩
      | false => exact ⟨_, rfl, .inr (.inr (.inr (.inr (.inr ⟨rfl, rfl, rfl, rfl⟩))))⟩

/-- One edge in BUSY completes the command when the counter reaches 0, and else counts (R52). -/
theorem countDown_cases (s : State) :
    (s.cnt ≤ 1 ∧ s.countDown = s.complete) ∨ (1 < s.cnt ∧ s.countDown = { s with cnt := s.cnt - 1 }) := by
  unfold State.countDown
  split_ifs with h
  · exact .inl ⟨by omega, rfl⟩
  · exact .inr ⟨by omega, rfl⟩

/-- A drawn latency is in `[1, LAT_MAX]` (R9, R10). -/
theorem latency_bounds (s : State) : 1 ≤ s.latency ∧ s.latency ≤ Config.latMax := by
  unfold State.latency Config.latMax
  split
  · omega
  · have := Nat.mod_lt (Config.latDraw s.edges s.ports.cmd s.selectedA s.selectedB) (show 0 < Config.latMaxPred + 1 by omega)
    omega

/-- A listed latency of the range is the one drawn: any value of the range can be (R9). -/
theorem latency_eq {s : State} {L : Nat} {d : List Nat} (h : s.draws = L :: d) (h1 : 1 ≤ L) (h2 : L ≤ Config.latMax) :
    s.latency = L := by
  simp only [State.latency, h]
  omega

end Sys2Proof.Machine
end

