-- ==== Sys2Proof/Laws/Claims.lean ====
section
/-! SUPPORT. The claims' terms and the model's operations say the same, one lemma each, so that a proof of a claim starts by
rewriting one into the other. -/

namespace Sys2Proof.Safety

open Sys2Proof.Machine

theorem commit_eq_succeeded (s : State) (v : Int) : s.commit v = succeeded s v := rfl

theorem raise_eq_failed (s : State) (e : ErrorKind) : s.raise e = failed s e.code := rfl

theorem operandA_eq_srcA (s : State) (sa : Src) : s.operandA sa = srcA s sa := by cases sa <;> rfl

theorem operandB_eq_srcB (s : State) (sb : Src) : s.operandB sb = srcB s sb := by cases sb <;> rfl

theorem readAs_fixed (v : Bus) : readAs .fixed v = signed128 v := by
  have h := (v.extractLsb' 0 128).isLt
  simp only [readAs, signed128, BitVec.toInt, BitVec.extractLsb'_toNat, Nat.shiftRight_zero] at h ⊢
  split_ifs <;> omega

theorem readAs_int128 (v : Bus) : readAs .int128 v = signed128 v := readAs_fixed v

theorem readAs_int256 (v : Bus) : readAs .int256 v = signed256 v := by
  have h := v.isLt
  simp only [readAs, signed256, BitVec.toInt]
  split_ifs <;> omega

theorem readAs_uint64 (v : Bus) : readAs .uint64 v = unsigned64 v := by
  simp [readAs, unsigned64, BitVec.extractLsb'_toNat]

theorem readAs_uint256 (v : Bus) : readAs .uint256 v = unsigned256 v := rfl

theorem inRange_iff_fits (v : Int) : inRange64x64 v ↔ Fits v := by
  simp only [inRange64x64, Fits, fxMin, fxMax]

theorem tdiv_eq_truncDiv (a b : Int) : tdiv a b = truncDiv a b := by
  unfold tdiv truncDiv
  rcases a.natAbs_eq with ha | ha <;> rcases b.natAbs_eq with hb | hb <;> generalize a.natAbs = m at * <;>
    generalize b.natAbs = n at * <;> subst ha <;> subst hb <;>
    rcases Nat.eq_zero_or_pos m with rfl | hm <;> rcases Nat.eq_zero_or_pos n with rfl | hn <;>
    simp_all [Int.neg_tdiv, Int.tdiv_neg, Int.sign_natCast_of_ne_zero, Nat.pos_iff_ne_zero]

/-- A 64.64 reading is a 64.64 value (R12). -/
theorem fits_signed128 (v : Bus) : Fits (signed128 v) := by
  have h : v.toNat % 2 ^ 128 < 2 ^ 128 := Nat.mod_lt _ (by positivity)
  simp only [signed128, Fits]
  split_ifs <;> omega

/-- An int256 reading is an int256 (R13). -/
theorem signed256_bounds (v : Bus) : -2 ^ 255 ≤ signed256 v ∧ signed256 v ≤ 2 ^ 255 - 1 := by
  have h := v.isLt
  simp only [signed256]
  split_ifs <;> omega

/-- A 64.64 value read back from its 256-bit two's complement is itself (R35). -/
theorem signed128_ofInt {x : Int} (h : Fits x) : signed128 (BitVec.ofInt 256 x) = x := by
  obtain ⟨h1, h2⟩ := h
  simp only [signed128, BitVec.toNat_ofInt]
  have h3 : (((x % (2 ^ 256 : Nat)).toNat % 2 ^ 128 : Nat) : Int) = x % 2 ^ 128 := by
    have : 0 ≤ x % (2 ^ 256 : Nat) := Int.emod_nonneg _ (by norm_num)
    push_cast
    rw [Int.toNat_of_nonneg (by simpa using this)]
    exact Int.emod_emod_of_dvd x ⟨2 ^ 128, by norm_num⟩
  rw [h3]
  split_ifs <;> omega

end Sys2Proof.Safety
end

