-- ==== Sys2Proof/Laws/PerInstr.lean ====
section
/-! SUPPORT. Statements for all commands, one lemma per constructor. -/

namespace Sys2Proof.Laws.RowBits

/-- The word of a command carries the fixed bits of its row (R76). -/
def Statement (i : Instr) : Prop := encode i &&& i.row.mask = i.row.matchBits

theorem nop : Statement .nop := by rfl
theorem fromint (sa : Src) : Statement (.fromint sa) := by cases sa <;> rfl
theorem toint (sa : Src) : Statement (.toint sa) := by cases sa <;> rfl
theorem fromuint (sa : Src) : Statement (.fromuint sa) := by cases sa <;> rfl
theorem touint (sa : Src) : Statement (.touint sa) := by cases sa <;> rfl
theorem from128 (sa : Src) : Statement (.from128 sa) := by cases sa <;> rfl
theorem to128 (sa : Src) : Statement (.to128 sa) := by cases sa <;> rfl
theorem fromdec (sa : Src) (d : BitVec 8) : Statement (.fromdec sa d) :=
  rowBits_imm 7#6 sa.bit 0#1 d 0xFFFF00BF 0x00000007 (by decide) (by cases sa <;> decide)
theorem todec (sa : Src) (d : BitVec 8) : Statement (.todec sa d) :=
  rowBits_imm 8#6 sa.bit 0#1 d 0xFFFF00BF 0x00000008 (by decide) (by cases sa <;> decide)
theorem add (sa sb : Src) : Statement (.add sa sb) := by cases sa <;> cases sb <;> rfl
theorem sub (sa sb : Src) : Statement (.sub sa sb) := by cases sa <;> cases sb <;> rfl
theorem neg (sa : Src) : Statement (.neg sa) := by cases sa <;> rfl
theorem abs (sa : Src) : Statement (.abs sa) := by cases sa <;> rfl
theorem avg (sa sb : Src) : Statement (.avg sa sb) := by cases sa <;> cases sb <;> rfl
theorem mul (sa sb : Src) : Statement (.mul sa sb) := by cases sa <;> cases sb <;> rfl
theorem muli (sa sb : Src) : Statement (.muli sa sb) := by cases sa <;> cases sb <;> rfl
theorem mulu (sa sb : Src) : Statement (.mulu sa sb) := by cases sa <;> cases sb <;> rfl
theorem div (sa sb : Src) : Statement (.div sa sb) := by cases sa <;> cases sb <;> rfl
theorem divi (sa sb : Src) : Statement (.divi sa sb) := by cases sa <;> cases sb <;> rfl
theorem divu (sa sb : Src) : Statement (.divu sa sb) := by cases sa <;> cases sb <;> rfl
theorem inv (sa : Src) : Statement (.inv sa) := by cases sa <;> rfl
theorem gavg (sa sb : Src) : Statement (.gavg sa sb) := by cases sa <;> cases sb <;> rfl
theorem pow (sa sb : Src) : Statement (.pow sa sb) := by cases sa <;> cases sb <;> rfl
theorem sqrt (sa : Src) : Statement (.sqrt sa) := by cases sa <;> rfl
theorem log2 (sa : Src) : Statement (.log2 sa) := by cases sa <;> rfl
theorem ln (sa : Src) : Statement (.ln sa) := by cases sa <;> rfl
theorem exp2 (sa : Src) : Statement (.exp2 sa) := by cases sa <;> rfl
theorem exp (sa : Src) : Statement (.exp sa) := by cases sa <;> rfl
theorem mov (sa : Src) : Statement (.mov sa) := by cases sa <;> rfl
theorem ldc (k : BitVec 8) : Statement (.ldc k) :=
  rowBits_imm 0x31#6 0#1 0#1 k 0xFFFF00FF 0x00000031 (by decide) (by decide)
theorem clrst : Statement .clrst := by rfl

end Sys2Proof.Laws.RowBits
end

