-- ==== Sys2Proof/Laws/Run.lean ====
section
/-! SUPPORT. Running edge by edge, and what of the state a command reads. -/

namespace Sys2Proof.Machine

/-- One edge more, at the front of a run. -/
theorem runEdges_succ {s t : State} (k : Nat) (h : step s = .next t) : runEdges (k + 1) s = runEdges k t := by
  rw [runEdges, h]

/-- A run in two parts. -/
theorem runEdges_add {s t : State} (a b : Nat) (h : runEdges a s = .next t) : runEdges (a + b) s = runEdges b t := by
  induction a generalizing s with
  | zero => cases h; rw [Nat.zero_add]
  | succ a ih =>
    obtain ⟨s', hs, -⟩ := step_cases s
    rw [runEdges_succ a hs] at h
    rw [show a + 1 + b = (a + b) + 1 by omega, runEdges_succ _ hs, ih h]

/-- What a command reads: RES and the operand buses; of STATUS it passes on what it does not write (R33, R34, R41). -/
theorem exec_congr (i : Instr) {s t : State} (hr : s.res = t.res) (hk : s.sticky = t.sticky)
    (ha : s.ports.a = t.ports.a) (hb : s.ports.b = t.ports.b) :
    ∃ u v, exec i s = .next u ∧ exec i t = .next v ∧ u.outcomeOf = v.outcomeOf := by
  have hA (x : Src) : s.operandA x = t.operandA x := by cases x <;> simp [State.operandA, hr, ha]
  have hB (x : Src) : s.operandB x = t.operandB x := by cases x <;> simp [State.operandB, hr, hb]
  have hF (r : Except ErrorKind Int) : (s.finish r).outcomeOf = (t.finish r).outcomeOf := by
    cases r <;> simp [State.finish, hr, hk]
  cases i with
  | ldc k => exact ⟨_, _, rfl, rfl, by cases rom k <;> simp [hr, hk]⟩
  | nop => exact ⟨_, _, rfl, rfl, by simp [hr, hk]⟩
  | clrst => exact ⟨_, _, rfl, rfl, by simp [hr]⟩
  | mov sa => exact ⟨_, _, rfl, rfl, by simp [hA, hk]⟩
  | _ => exact ⟨_, _, rfl, rfl, by simp only [hA, hB, hF]⟩

/-- The word at the ports reads no more than a command, and the word itself. -/
theorem execWord_congr {s t : State} (hr : s.res = t.res) (hk : s.sticky = t.sticky)
    (ha : s.ports.a = t.ports.a) (hb : s.ports.b = t.ports.b) (hc : s.ports.cmd = t.ports.cmd) :
    ∃ u v, s.execWord = .next u ∧ t.execWord = .next v ∧ u.outcomeOf = v.outcomeOf := by
  unfold State.execWord
  rw [hc]
  cases decode t.ports.cmd with
  | error e => exact ⟨_, _, rfl, rfl, by simp [hr]⟩
  | ok i => exact exec_congr i hr hk ha hb

end Sys2Proof.Machine
end

