-- ==== Sys2Proof/Tests/Slice0.lean ====
section
/-! SUPPORT. Tests, each on a fixed word or one step, with results from the spec's own tables (95_test_vectors.md, named in
the comments as V, E, X, S and Z), and for every statement with hypotheses the concrete values that meet them. -/

namespace Sys2Proof.Tests

-- One theorem at a time: the many kernel evaluations below would else all start at once, each with a stack of its own.
set_option Elab.async false

open Sys2Proof.Machine Sys2Proof.Safety

/-! ### Helpers -/

/-- IDLE after reset, and at the next edge a host that presents nothing. -/
def quiet : State := { State.reset with host := [quietPorts] }

/-- The operand buses carry the integers in two's complement. -/
def on (x y : Int) : State := withBuses quiet (BitVec.ofInt 256 x) (BitVec.ofInt 256 y)

/-- An outcome is the given next state. -/
def lands (o : Host.Outcome State Fault Refusal) (t : State) : Bool :=
  match o with
  | .next u => decide (u = t)
  | _ => false

theorem eq_of_lands {o : Host.Outcome State Fault Refusal} {t : State} (h : lands o t = true) : o = .next t := by
  cases o <;> simp_all [lands]

theorem gives_of_lands {i : Instr} {x y v : Int} (h : lands (exec i (on x y)) (succeeded (on x y) v) = true) :
    Gives i quiet x y v := eq_of_lands h

theorem fails_of_lands {i : Instr} {x y : Int} {c : ErrCode} (h : lands (exec i (on x y)) (failed (on x y) c) = true) :
    Fails i quiet x y c := eq_of_lands h

/-- The integers on the buses as the operands' fields read them. -/
abbrev a128 (x : Int) : Int := signed128 (srcA (on x 0) .bus)
abbrev b128 (y : Int) : Int := signed128 (srcB (on 0 y) .bus)
abbrev a256 (x : Int) : Int := signed256 (srcA (on x 0) .bus)
abbrev b256 (y : Int) : Int := signed256 (srcB (on 0 y) .bus)
abbrev au256 (x : Int) : Int := unsigned256 (srcA (on x 0) .bus)
abbrev bu256 (y : Int) : Int := unsigned256 (srcB (on 0 y) .bus)
abbrev au64 (x : Int) : Int := unsigned64 (srcA (on x 0) .bus)

/-- The ports at an edge that presents a command. -/
def presents (w : CmdWord) (x y : Int) : Ports :=
  { rst := false, cmdValid := true, cmd := w, a := BitVec.ofInt 256 x, b := BitVec.ofInt 256 y, rspReady := false }

/-- IDLE, a command presented at the next edge, its latency 1 drawn. -/
def issued (w : CmdWord) (x y : Int) : State := { State.reset with host := [presents w x y, quietPorts, quietPorts], draws := [1] }

/-- An outcome of a command. -/
def fiveOnes : ExecOutcome := { res := 0x50000000000000000, lastErr := 0, sticky := true, rspRes := 0x50000000000000000, rspErr := 0 }

/-- BUSY, with the given cycles left and a latched outcome. -/
def busyWith (cnt : Nat) (p : Ports) : State :=
  { State.reset with phase := .busy, sticky := true, lastErr := 2, cnt := cnt, outcome := fiveOnes, host := [p] }

/-- RESP, with a response held. -/
def holding (p : Ports) : State :=
  { State.reset with phase := .resp, res := 0x50000000000000000, sticky := true, rspRes := 0x50000000000000000, host := [p] }

/-- The ports at a reset edge, a command presented and a consumption offered. -/
def resetPorts : Ports := { presents 0x00000001 21 0 with rst := true, rspReady := true }

/-! ### Well-formedness and decoding -/

theorem test_wellFormed_ldc : (Instr.ldc 4).wellFormed = true ∧ (Instr.ldc 5).wellFormed = false := by decide

/-- X9, X10: what is not well-formed is not decoded. -/
theorem test_decode_refuses_ldc5 : decode 0x00000531 = .error .romIndex ∧ decode 0x0000FF31 = .error .romIndex := by decide +kernel

/-! Words written out as `RSV IMM SB SA OP` from R70 and the opcodes of R76. -/

theorem test_decode_conversions :
    decode 0b0000000000000000_00000000_0_0_000001#32 = .ok (.fromint .bus) ∧
    decode 0b0000000000000000_00000000_0_1_000010#32 = .ok (.toint .res) ∧
    decode 0b0000000000000000_00000000_0_1_000011#32 = .ok (.fromuint .res) ∧
    decode 0b0000000000000000_00000000_0_0_000100#32 = .ok (.touint .bus) ∧
    decode 0b0000000000000000_00000000_0_0_000101#32 = .ok (.from128 .bus) ∧
    decode 0b0000000000000000_00000000_0_1_000110#32 = .ok (.to128 .res) ∧
    decode 0b0000000000000000_11111111_0_0_000111#32 = .ok (.fromdec .bus 255) ∧
    decode 0b0000000000000000_00000110_0_1_001000#32 = .ok (.todec .res 6) := by decide +kernel

theorem test_decode_linear :
    decode 0b0000000000000000_00000000_0_1_010000#32 = .ok (.add .res .bus) ∧
    decode 0b0000000000000000_00000000_1_0_010001#32 = .ok (.sub .bus .res) ∧
    decode 0b0000000000000000_00000000_0_1_010010#32 = .ok (.neg .res) ∧
    decode 0b0000000000000000_00000000_0_0_010011#32 = .ok (.abs .bus) ∧
    decode 0b0000000000000000_00000000_1_1_010100#32 = .ok (.avg .res .res) := by decide +kernel

theorem test_decode_multiplicative :
    decode 0b0000000000000000_00000000_1_1_011000#32 = .ok (.mul .res .res) ∧
    decode 0b0000000000000000_00000000_0_1_011001#32 = .ok (.muli .res .bus) ∧
    decode 0b0000000000000000_00000000_1_0_011010#32 = .ok (.mulu .bus .res) ∧
    decode 0b0000000000000000_00000000_1_0_011011#32 = .ok (.div .bus .res) ∧
    decode 0b0000000000000000_00000000_0_1_011100#32 = .ok (.divi .res .bus) ∧
    decode 0b0000000000000000_00000000_0_1_011101#32 = .ok (.divu .res .bus) ∧
    decode 0b0000000000000000_00000000_0_1_011110#32 = .ok (.inv .res) := by decide +kernel

theorem test_decode_transcendental :
    decode 0b0000000000000000_00000000_1_0_100000#32 = .ok (.gavg .bus .res) ∧
    decode 0b0000000000000000_00000000_0_1_100001#32 = .ok (.pow .res .bus) ∧
    decode 0b0000000000000000_00000000_0_0_100010#32 = .ok (.sqrt .bus) ∧
    decode 0b0000000000000000_00000000_0_1_100011#32 = .ok (.log2 .res) ∧
    decode 0b0000000000000000_00000000_0_0_100100#32 = .ok (.ln .bus) ∧
    decode 0b0000000000000000_00000000_0_1_100101#32 = .ok (.exp2 .res) ∧
    decode 0b0000000000000000_00000000_0_0_100110#32 = .ok (.exp .bus) := by decide +kernel

theorem test_decode_control :
    decode 0b0000000000000000_00000000_0_0_000000#32 = .ok .nop ∧
    decode 0b0000000000000000_00000000_0_1_110000#32 = .ok (.mov .res) ∧
    decode 0b0000000000000000_00000011_0_0_110001#32 = .ok (.ldc 3) ∧
    decode 0b0000000000000000_00000000_0_0_110010#32 = .ok .clrst := by decide +kernel

/-- X2, X3, X5, X14, X26. -/
theorem test_decode_illegal :
    decode 0x00000040 = .error .sourceA ∧ decode 0x80000010 = .error .reservedBits ∧ decode 0x00000110 = .error .immediate ∧
    decode 0x000012C7 = .error .sourceB ∧ decode 0x0000003F = .error .reservedOpcode := by decide +kernel

theorem test_decodeTableWord :
    decodeTableWord 32 0x1B = some (.div .bus .bus) ∧ decodeTableWord 32 0x531 = none ∧
    decodeTableWord 32 (2 ^ 32) = none := by decide +kernel

/-- The word placed is the word the next step accepts and runs. -/
theorem test_withFetchWord : ∃ t, step (State.reset.withFetchWord 32 0x431) = .next t ∧ t.phase = .busy ∧ t.cw = 0x431 ∧
    t.outcome.res = 57952155664616982739 := ⟨_, rfl, rfl, rfl, by decide +kernel⟩

theorem test_asm : (asmOf (.todec .res 6)).text = "TODEC RES, #6" ∧ (asmOf (.avg .bus .res)).text = "AVG A, RES" ∧
    assemble ⟨"todec", some .res, none, some 6⟩ = some 0x00000648 := by decide +kernel

/-! ### One command each: results from the vectors V of the spec -/

/-- V5, V6. -/
theorem test_fromint : Gives (.fromint .bus) quiet (-2 ^ 63) 0 (-2 ^ 127) ∧
    Fails (.fromint .bus) quiet (2 ^ 63) 0 1 :=
  ⟨gives_of_lands (by decide +kernel), fails_of_lands (by decide +kernel)⟩

/-- V10, V11. -/
theorem test_toint : Gives (.toint .bus) quiet (-101457092405402533888) 0 (-6) ∧
    Gives (.toint .bus) quiet (-2 ^ 127) 0 (-2 ^ 63) :=
  ⟨gives_of_lands (by decide +kernel), gives_of_lands (by decide +kernel)⟩

/-- V18, V16. -/
theorem test_fromuint : Gives (.fromuint .bus) quiet 18446744073709551619 0 (3 * 2 ^ 64) ∧
    Fails (.fromuint .bus) quiet (2 ^ 63) 0 1 :=
  ⟨gives_of_lands (by decide +kernel), fails_of_lands (by decide +kernel)⟩

/-- V19, V21. -/
theorem test_touint : Gives (.touint .bus) quiet 101457092405402533888 0 5 ∧
    Fails (.touint .bus) quiet (-1) 0 1 :=
  ⟨gives_of_lands (by decide +kernel), fails_of_lands (by decide +kernel)⟩

/-- V24, V25, V26. -/
theorem test_from128 : Gives (.from128 .bus) quiet (-1) 0 (-1) ∧
    Fails (.from128 .bus) quiet (2 ^ 191) 0 1 ∧
    Gives (.from128 .bus) quiet (-2 ^ 191) 0 (-2 ^ 127) :=
  ⟨gives_of_lands (by decide +kernel), fails_of_lands (by decide +kernel), gives_of_lands (by decide +kernel)⟩

/-- V29. -/
theorem test_to128 : Gives (.to128 .bus) quiet (-2 ^ 127) 0 (-2 ^ 191) :=
  gives_of_lands (by decide +kernel)

/-- V31, V34, V35. -/
theorem test_fromdec : Gives (.fromdec .bus 18) quiet 1500000000000000000 0 27670116110564327424 ∧
    Fails (.fromdec .bus 78) quiet 1 0 2 ∧
    Fails (.fromdec .bus 0) quiet (2 ^ 256 - 1) 0 1 :=
  ⟨gives_of_lands (by decide +kernel), fails_of_lands (by decide +kernel), fails_of_lands (by decide +kernel)⟩

/-- V45, V40, V41, V43. -/
theorem test_todec : Gives (.todec .bus 20) quiet 1 0 5 ∧
    Fails (.todec .bus 78) quiet (-1) 0 1 ∧
    Fails (.todec .bus 77) quiet (2 ^ 64) 0 2 ∧
    Fails (.todec .bus 78) quiet (2 ^ 64) 0 2 :=
  ⟨gives_of_lands (by decide +kernel), fails_of_lands (by decide +kernel), fails_of_lands (by decide +kernel), fails_of_lands (by decide +kernel)⟩

/-- V49, V47. -/
theorem test_add : Gives (.add .bus .bus) quiet (-2 ^ 127) (2 ^ 127 - 1) (-1) ∧
    Fails (.add .bus .bus) quiet (2 ^ 127 - 1) 1 2 :=
  ⟨gives_of_lands (by decide +kernel), fails_of_lands (by decide +kernel)⟩

/-- V53, V50. -/
theorem test_sub : Gives (.sub .bus .bus) quiet (-1) (2 ^ 127 - 1) (-2 ^ 127) ∧
    Fails (.sub .bus .bus) quiet 0 (-2 ^ 127) 2 :=
  ⟨gives_of_lands (by decide +kernel), fails_of_lands (by decide +kernel)⟩

/-- V56, V55. -/
theorem test_neg : Gives (.neg .bus) quiet (2 ^ 127 - 1) 0 (-(2 ^ 127 - 1)) ∧
    Fails (.neg .bus) quiet (-2 ^ 127) 0 2 :=
  ⟨gives_of_lands (by decide +kernel), fails_of_lands (by decide +kernel)⟩

/-- V58, V59. -/
theorem test_abs : Gives (.abs .bus) quiet (-3 * 2 ^ 64) 0 (3 * 2 ^ 64) ∧
    Fails (.abs .bus) quiet (-2 ^ 127) 0 2 :=
  ⟨gives_of_lands (by decide +kernel), fails_of_lands (by decide +kernel)⟩

/-- V63, V65. -/
theorem test_avg : Gives (.avg .bus .bus) quiet (-3) (-4) (-4) ∧
    Gives (.avg .bus .bus) quiet (2 ^ 127 - 1) (2 ^ 127 - 1) (2 ^ 127 - 1) :=
  ⟨gives_of_lands (by decide +kernel), gives_of_lands (by decide +kernel)⟩

/-- V71, V73. -/
theorem test_mul : Gives (.mul .bus .bus) quiet (-27670116110564327424) 3 (-4) ∧
    Fails (.mul .bus .bus) quiet (-2 ^ 127) (-2 ^ 64) 2 :=
  ⟨gives_of_lands (by decide +kernel), fails_of_lands (by decide +kernel)⟩

/-- V79, V82. -/
theorem test_muli : Gives (.muli .bus .bus) quiet (-2 ^ 127) (-1) (2 ^ 63) ∧
    Fails (.muli .bus .bus) quiet (2 ^ 63) (2 ^ 254) 2 :=
  ⟨gives_of_lands (by decide +kernel), fails_of_lands (by decide +kernel)⟩

/-- V88, V86, V87. -/
theorem test_mulu : Gives (.mulu .bus .bus) quiet (2 ^ 64) (2 ^ 192 - 1) (2 ^ 192 - 1) ∧
    Fails (.mulu .bus .bus) quiet (-1) 0 1 ∧
    Fails (.mulu .bus .bus) quiet (2 ^ 64) (2 ^ 192) 2 :=
  ⟨gives_of_lands (by decide +kernel), fails_of_lands (by decide +kernel), fails_of_lands (by decide +kernel)⟩

/-- V92, V93, V94. -/
theorem test_div : Gives (.div .bus .bus) quiet (-2 ^ 64) (3 * 2 ^ 64) (-6148914691236517205) ∧
    Fails (.div .bus .bus) quiet (2 ^ 64) 0 3 ∧
    Fails (.div .bus .bus) quiet (-2 ^ 127) (-2 ^ 64) 2 :=
  ⟨gives_of_lands (by decide +kernel), fails_of_lands (by decide +kernel), fails_of_lands (by decide +kernel)⟩

/-- V104, V102, V103. -/
theorem test_divi : Gives (.divi .bus .bus) quiet (-2 ^ 63) 1 (-2 ^ 127) ∧
    Fails (.divi .bus .bus) quiet 1 0 3 ∧
    Fails (.divi .bus .bus) quiet (2 ^ 63) 1 2 :=
  ⟨gives_of_lands (by decide +kernel), fails_of_lands (by decide +kernel), fails_of_lands (by decide +kernel)⟩

/-- V109, V111, V112. -/
theorem test_divu : Gives (.divu .bus .bus) quiet (2 ^ 63 - 1) 1 170141183460469231713240559642174554112 ∧
    Fails (.divu .bus .bus) quiet 5 0 3 ∧
    Fails (.divu .bus .bus) quiet (2 ^ 256 - 1) (2 ^ 192) 2 :=
  ⟨gives_of_lands (by decide +kernel), fails_of_lands (by decide +kernel), fails_of_lands (by decide +kernel)⟩

/-- V118, V115, V119. -/
theorem test_inv : Gives (.inv .bus) quiet (-2) 0 (-2 ^ 127) ∧
    Fails (.inv .bus) quiet 2 0 2 ∧
    Fails (.inv .bus) quiet 0 0 3 :=
  ⟨gives_of_lands (by decide +kernel), fails_of_lands (by decide +kernel), fails_of_lands (by decide +kernel)⟩

/-- V126, V127, V124. -/
theorem test_gavg : Gives (.gavg .bus .bus) quiet (-4 * 2 ^ 64) (-9 * 2 ^ 64) (6 * 2 ^ 64) ∧
    Fails (.gavg .bus .bus) quiet (-2 ^ 127) (-2 ^ 127) 2 ∧
    Fails (.gavg .bus .bus) quiet (16 * 2 ^ 64) (-25 * 2 ^ 64) 4 :=
  ⟨gives_of_lands (by decide +kernel), fails_of_lands (by decide +kernel), fails_of_lands (by decide +kernel)⟩

/-- V136, V144, V143. -/
theorem test_pow : Gives (.pow .bus .bus) quiet (-2 * 2 ^ 64) 63 (-2 ^ 127) ∧
    Gives (.pow .bus .bus) quiet 20291418481080506777 10 47846103354578508123 ∧
    Fails (.pow .bus .bus) quiet (-2 ^ 127) 2 2 :=
  ⟨gives_of_lands (by decide +kernel), gives_of_lands (by decide +kernel), fails_of_lands (by decide +kernel)⟩

/-- V147, V149. -/
theorem test_sqrt : Gives (.sqrt .bus) quiet (2 * 2 ^ 64) 0 26087635650665564424 ∧
    Fails (.sqrt .bus) quiet (-1) 0 4 :=
  ⟨gives_of_lands (by decide +kernel), fails_of_lands (by decide +kernel)⟩

/-- V155, V160, V157. -/
theorem test_log2 : Gives (.log2 .bus) quiet 1 0 (-64 * 2 ^ 64) ∧
    Gives (.log2 .bus) quiet (3 * 2 ^ 64) 0 29237397617229858719 ∧
    Fails (.log2 .bus) quiet 0 0 4 :=
  ⟨gives_of_lands (by decide +kernel), gives_of_lands (by decide +kernel), fails_of_lands (by decide +kernel)⟩

/-- V163, V167. -/
theorem test_ln : Gives (.ln .bus) quiet 50143449209799256682 0 18446744073709551614 ∧
    Fails (.ln .bus) quiet 0 0 4 :=
  ⟨gives_of_lands (by decide +kernel), fails_of_lands (by decide +kernel)⟩

/-- V174, V175, V178. -/
theorem test_exp2 : Gives (.exp2 .bus) quiet 1162144876643701751807 0 170141183460469231725294149393282777868 ∧
    Fails (.exp2 .bus) quiet (63 * 2 ^ 64) 0 2 ∧
    Gives (.exp2 .bus) quiet (-1180591620717411303425) 0 0 :=
  ⟨gives_of_lands (by decide +kernel), fails_of_lands (by decide +kernel), gives_of_lands (by decide +kernel)⟩

/-- V191, V192, V189. -/
theorem test_exp : Gives (.exp .bus) quiet 805537444647767306581 0 170141183460469231725294149393282777868 ∧
    Fails (.exp .bus) quiet 805537444647767306582 0 2 ∧
    Gives (.exp .bus) quiet (-1180591620717411303425) 0 0 :=
  ⟨gives_of_lands (by decide +kernel), fails_of_lands (by decide +kernel), gives_of_lands (by decide +kernel)⟩

/-- V193. -/
theorem test_mov : Gives (.mov .bus) quiet (2 ^ 256 - 1) 0 (2 ^ 256 - 1) :=
  gives_of_lands (by decide +kernel)

/-- V196, V200. -/
theorem test_ldc : Gives (.ldc 1) quiet 0 0 (-2 ^ 127) ∧
    Fails (.ldc 5) quiet 0 0 5 :=
  ⟨gives_of_lands (by decide +kernel), fails_of_lands (by decide +kernel)⟩

/-- S1, S2: RES 7, STATUS 0b1010. -/
theorem test_nop_clrst : let s : State := { quiet with res := 7, lastErr := 2, sticky := true }
    exec .nop s = .next { s with res := 7, lastErr := 0, sticky := true, rspRes := 7, rspErr := 0 } ∧
    exec .clrst s = .next { s with res := 7, lastErr := 0, sticky := false, rspRes := 7, rspErr := 0 } :=
  ⟨eq_of_lands (by decide +kernel), eq_of_lands (by decide +kernel)⟩

/-- S5: NEG RES on MAX with STATUS 0b1010 gives -MAX, and STICKY stays. -/
theorem test_neg_res : let s : State := { quiet with res := 2 ^ 127 - 1, lastErr := 2, sticky := true }
    exec (.neg .res) s = .next { s with res := 1 - 2 ^ 127, lastErr := 0, rspRes := 1 - 2 ^ 127 } :=
  eq_of_lands (by decide +kernel)

/-- S8: DIVU reads all of a negative RES as an unsigned number. -/
theorem test_divu_res : let s : State := { on 0 (2 ^ 255) with res := BitVec.ofInt 256 (-2 ^ 64) }
    exec (.divu .res .bus) s = .next (succeeded s 36893488147419103231) :=
  eq_of_lands (by decide +kernel)

/-! ### Witnesses: for each statement with hypotheses, concrete values that meet them all -/

theorem test_witness_DecodeOfEncodeIsTheCommand : (Instr.ldc 4).wellFormed = true ∧ (Instr.fromdec .res 255).wellFormed = true := by
  decide

theorem test_witness_EncodeOfDecodeIsTheWord :
    decode 0x00000431 = .ok (.ldc 4) ∧ decode 0x0000FF47 = .ok (.fromdec .res 255) := by decide +kernel

theorem test_witness_LegalWordsDecodeOthersAreIllegal :
    legal 0x00000431 = true ∧ decode 0x00000431 = .ok (.ldc 4) ∧ (Instr.ldc 4).row ∈ opcodeMap ∧
    (0x00000431#32) &&& (Instr.ldc 4).row.mask = (Instr.ldc 4).row.matchBits ∧ legal 0x00000531 = false := by decide +kernel

theorem test_witness_ReservedEncodingsAreIllegal :
    (0x0000003F#32).toNat % 2 ^ 6 ∈ reservedOps ∧ (0x00010010#32).toNat / 2 ^ 16 ≠ 0 ∧
    (∃ r ∈ opcodeMap, r.op = (0x00000040#32).toNat % 2 ^ 6 ∧ r.operandA = none ∧ (0x00000040#32).toNat / 2 ^ 6 % 2 = 1) ∧
    (∃ r ∈ opcodeMap, r.op = (0x00000092#32).toNat % 2 ^ 6 ∧ r.operandB = none ∧ (0x00000092#32).toNat / 2 ^ 7 % 2 = 1) ∧
    (∃ r ∈ opcodeMap, r.op = (0x00000110#32).toNat % 2 ^ 6 ∧ r.imm = .mustBeZero ∧
      (0x00000110#32).toNat / 2 ^ 8 % 2 ^ 8 ≠ 0) := by decide +kernel

theorem test_witness_AssemblyFormDeterminesTheWord :
    (Instr.todec .res 6).wellFormed = true ∧ assemble (asmOf (.todec .res 6)) = some 0x00000648 := by decide +kernel

theorem test_witness_StepRunsTheDecodedCommand :
    (issued 0x0000001B (21 * 2 ^ 64) (7 * 2 ^ 64)).phase = .idle ∧ (issued 0x0000001B (21 * 2 ^ 64) (7 * 2 ^ 64)).ports.rst = false ∧
    (issued 0x0000001B (21 * 2 ^ 64) (7 * 2 ^ 64)).ports.cmdValid = true ∧
    decode (issued 0x0000001B (21 * 2 ^ 64) (7 * 2 ^ 64)).ports.cmd = .ok (.div .bus .bus) ∧
    exec (.div .bus .bus) (issued 0x0000001B (21 * 2 ^ 64) (7 * 2 ^ 64))
      = .next (succeeded (issued 0x0000001B (21 * 2 ^ 64) (7 * 2 ^ 64)) (3 * 2 ^ 64)) :=
  ⟨rfl, rfl, rfl, by decide +kernel, eq_of_lands (by decide +kernel)⟩

theorem test_witness_StepAcceptsAnIllegalWord :
    (issued 0x00000531 0 0).phase = .idle ∧ (issued 0x00000531 0 0).ports.rst = false ∧
    (issued 0x00000531 0 0).ports.cmdValid = true ∧ decode (issued 0x00000531 0 0).ports.cmd = .error .romIndex :=
  ⟨rfl, rfl, rfl, by decide +kernel⟩

/-- A reset edge in each phase (Z1 to Z3). -/
theorem test_witness_ResetEdgeWinsInEveryPhase :
    State.ports { State.reset with res := 5, lastErr := 2, sticky := true, host := [resetPorts] } = resetPorts ∧
    (busyWith 1 resetPorts).ports = resetPorts ∧ (holding resetPorts).ports = resetPorts ∧ resetPorts.rst = true :=
  ⟨rfl, rfl, rfl, rfl⟩

/-- Each transition, each wait, and two inputs that a phase does not tell apart. -/
theorem test_witness_NoOtherPhaseTransitions :
    (Inv (issued 0 0 0) ∧ ∃ t, step (issued 0 0 0) = .next t ∧ t.phase = .busy) ∧
    (Inv (busyWith 1 quietPorts) ∧ ∃ t, step (busyWith 1 quietPorts) = .next t ∧ t.phase = .resp) ∧
    (Inv (holding { quietPorts with rspReady := true }) ∧
      ∃ t, step (holding { quietPorts with rspReady := true }) = .next t ∧ t.phase = .idle) ∧
    (quiet.ports.rst = false ∧ quiet.phase = .idle ∧ quiet.ports.cmdValid = false) ∧
    ((holding quietPorts).ports.rst = false ∧ (holding quietPorts).phase = .resp ∧ (holding quietPorts).ports.rspReady = false) ∧
    (quiet.phase = .idle ∧ quietPorts.rst = ({ quietPorts with rspReady := true } : Ports).rst) ∧
    ((busyWith 2 quietPorts).phase = .busy ∧ quietPorts.rst = (presents 0 0 0).rst ∧ quietPorts ≠ presents 0 0 0) ∧
    ((holding quietPorts).phase = .resp ∧ quietPorts.rspReady = (presents 0 0 0).rspReady) :=
  ⟨⟨by constructor <;> simp [issued, State.reset], _, rfl, rfl⟩,
    ⟨by constructor <;> simp [busyWith, State.reset, Consistent, fiveOnes], _, rfl, rfl⟩,
    ⟨by constructor <;> simp [holding, State.reset, Consistent, State.outcomeOf], _, rfl, rfl⟩, ⟨rfl, rfl, rfl⟩, ⟨rfl, rfl, rfl⟩, ⟨rfl, rfl⟩, ⟨rfl, rfl, by decide⟩, ⟨rfl, rfl⟩⟩

theorem test_witness_BusyCountsDownThenCompletes :
    ((busyWith 2 quietPorts).phase = .busy ∧ (busyWith 2 quietPorts).ports.rst = false ∧ 1 < (busyWith 2 quietPorts).cnt) ∧
    ((busyWith 1 quietPorts).phase = .busy ∧ (busyWith 1 quietPorts).ports.rst = false ∧ (busyWith 1 quietPorts).cnt = 1) := by
  decide

theorem test_witness_ResponseIsHeldUntilConsumed :
    ((holding quietPorts).phase = .resp ∧ (holding quietPorts).ports.rst = false ∧ (holding quietPorts).ports.rspReady = false) ∧
    ((holding { quietPorts with rspReady := true }).phase = .resp ∧
      (holding { quietPorts with rspReady := true }).ports.rst = false ∧
      (holding { quietPorts with rspReady := true }).ports.rspReady = true) := by decide

/-- The invariant holds in a state of each phase. -/
theorem test_witness_OutputsFollowTheState :
    Inv quiet ∧ Inv (busyWith 1 quietPorts) ∧ Inv (holding quietPorts) := by
  refine ⟨?_, ?_, ?_⟩ <;> constructor <;>
    simp [quiet, busyWith, holding, State.reset, Consistent, State.outcomeOf, fiveOnes]

/-- From that invariant's states the step answers. -/
theorem test_witness_EveryStepKeepsTheBlockInvariant :
    Inv (busyWith 1 quietPorts) ∧ ∃ t, step (busyWith 1 quietPorts) = .next t ∧ t.res = 0x50000000000000000 :=
  ⟨test_witness_OutputsFollowTheState.2.1, _, rfl, rfl⟩

theorem test_witness_ResAndStatusChangeOnlyAtCompletionOrReset :
    (∃ t, step (issued 0 0 0) = .next t) ∧ (issued 0 0 0).ports.rst = false ∧
    ¬ ((issued 0 0 0).phase = .busy ∧ (issued 0 0 0).cnt ≤ 1) ∧
    (∃ t, step (busyWith 2 quietPorts) = .next t) ∧ (busyWith 2 quietPorts).ports.rst = false ∧
    ¬ ((busyWith 2 quietPorts).phase = .busy ∧ (busyWith 2 quietPorts).cnt ≤ 1) :=
  ⟨⟨_, rfl⟩, rfl, by decide, ⟨_, rfl⟩, rfl, by decide⟩

/-- A result of each type: 64.64, int64, int256, uint64, uint256. -/
theorem test_witness_ResultsStayInTheirType :
    (exec (.add .bus .bus) (on 1 2) = .next (succeeded (on 1 2) 3) ∧ (Instr.add .bus .bus).row.result = some .fixed) ∧
    (exec (.toint .bus) (on (-1) 0) = .next (succeeded (on (-1) 0) (-1)) ∧ (Instr.toint .bus).row.result = some .int64) ∧
    (exec (.to128 .bus) (on (-1) 0) = .next (succeeded (on (-1) 0) (-2 ^ 64)) ∧ (Instr.to128 .bus).row.result = some .int256) ∧
    (exec (.touint .bus) (on (2 ^ 64) 0) = .next (succeeded (on (2 ^ 64) 0) 1) ∧ (Instr.touint .bus).row.result = some .uint64) ∧
    (exec (.mov .bus) (on 7 0) = .next (succeeded (on 7 0) 7) ∧ (Instr.mov .bus).row.result = some .uint256) ∧
    (succeeded (on 1 2) 3).rspErr = 0 :=
  ⟨⟨eq_of_lands (by decide +kernel), rfl⟩, ⟨eq_of_lands (by decide +kernel), rfl⟩, ⟨eq_of_lands (by decide +kernel), rfl⟩,
    ⟨eq_of_lands (by decide +kernel), rfl⟩, ⟨eq_of_lands (by decide +kernel), rfl⟩, rfl⟩

theorem test_witness_CommandsReportOnlyTheirErrors :
    (Instr.div .bus .bus).wellFormed = true ∧ exec (.div .bus .bus) (on 1 0) = .next (failed (on 1 0) 3) ∧
    (failed (on 1 0) 3).rspErr ≠ 0 := ⟨rfl, eq_of_lands (by decide +kernel), by decide⟩

theorem test_witness_NoCommandReadsStatus :
    exec (.add .bus .bus) (on 1 2) = .next (succeeded (on 1 2) 3) := eq_of_lands (by decide +kernel)

/-- V8, V18: buses that differ above the field read, or on a bus that is not read, and one that the source bit leaves out. -/
theorem test_witness_UnreadOperandBitsAreIgnored :
    (∀ ty, (Instr.fromuint .bus).row.operandA = some ty → (Instr.fromuint .bus).saBit = 0 →
      (3#256).toNat % 2 ^ fieldBits ty = (0x10000000000000003#256).toNat % 2 ^ fieldBits ty) ∧
    (∀ ty, (Instr.fromuint .res).row.operandA = some ty → (Instr.fromuint .res).saBit = 0 →
      (3#256).toNat % 2 ^ fieldBits ty = (4#256).toNat % 2 ^ fieldBits ty) ∧
    (∀ ty, (Instr.fromuint .bus).row.operandB = some ty → (Instr.fromuint .bus).sbBit = 0 → (0#256).toNat % 2 ^ fieldBits ty = (9#256).toNat % 2 ^ fieldBits ty) ∧
    exec (.fromuint .bus) (withBuses quiet 3#256 0#256) = .next (succeeded (withBuses quiet 3#256 0#256) (3 * 2 ^ 64)) :=
  ⟨by decide +kernel, by decide +kernel, by decide +kernel, eq_of_lands (by decide +kernel)⟩

/-- CLRST in its last cycle of BUSY, STICKY set. -/
def clearing : State :=
  { State.reset with phase := .busy, sticky := true, lastErr := 2, cnt := 1, cw := 0x00000032, host := [quietPorts] }

theorem test_witness_OnlyClrstAndResetClearSticky :
    (Inv { quiet with sticky := true, host := [resetPorts] } ∧
      ∃ t, step { quiet with sticky := true, host := [resetPorts] } = .next t ∧ t.sticky = false) ∧
    (Inv clearing ∧ ∃ t, step clearing = .next t ∧ clearing.sticky = true ∧ t.sticky = false) ∧
    (∃ t, State.execWord { issued 0x00000032 0 0 with sticky := true } = .next t ∧ t.sticky = false) :=
  ⟨⟨by constructor <;> simp [quiet, State.reset], _, rfl, rfl⟩,
    ⟨by constructor <;> simp [clearing, State.reset, Consistent, ExecOutcome.none], _, rfl, rfl, rfl⟩, ⟨_, rfl, rfl⟩⟩

theorem test_witness_LatencyStaysWithinItsBound :
    Bounded (busyWith 1 quietPorts) ∧ (∃ t, step (busyWith 1 quietPorts) = .next t) ∧ 1 ≤ Config.latMax :=
  ⟨by simp [Bounded, busyWith, Config.latMax], ⟨_, rfl⟩, by simp [Config.latMax]⟩

theorem test_witness_LatchesAreNotObservableOutsideBusy :
    (issued 0 0 0).phase ≠ .busy ∧ SameButLatches (issued 0 0 0) { issued 0 0 0 with cw := 5, opA := 1, outcome := fiveOnes, cnt := 3 } ∧
    issued 0 0 0 ≠ { issued 0 0 0 with cw := 5, opA := 1, outcome := fiveOnes, cnt := 3 } :=
  ⟨by decide, rfl, by decide⟩

theorem test_witness_HandshakeDeliversTheOutcomeOfExec :
    (issued 0x00000001 21 0).phase = .idle ∧ (issued 0x00000001 21 0).ports.rst = false ∧
    (issued 0x00000001 21 0).ports.cmdValid = true ∧
    (issued 0x00000001 21 0).execWord = .next (succeeded (issued 0x00000001 21 0) (21 * 2 ^ 64)) ∧
    (issued 0x00000001 21 0).latency = 1 ∧
    ∀ j, 1 ≤ j → j ≤ (issued 0x00000001 21 0).latency → (portsAt (issued 0x00000001 21 0) j).rst = false := by
  have hL : (issued 0x00000001 21 0).latency = 1 := latency_eq (d := []) rfl le_rfl (by simp [Config.latMax])
  refine ⟨rfl, rfl, rfl, eq_of_lands (by decide +kernel), hL, fun j h1 h2 => ?_⟩
  obtain rfl : j = 1 := by omega
  rfl

/-- A turn that issues FROMINT 21 after an idle cycle, and lets the response wait for one cycle. -/
def turn : Turn :=
  { idle := [quietPorts], issue := presents 0x00000001 21 0, busy := [presents 0x00000032 0 0], hold := [quietPorts],
    consume := { quietPorts with rspReady := true } }

theorem test_witness_RunIsTheFoldOfExec :
    (∀ u ∈ [turn] ++ [turn], u.Ok) ∧
    ∃ s : State, s.phase = .idle ∧ s.host = ([turn].map Turn.tape).flatten ++ (turn.tape ++ []) ∧
      s.draws = ([turn] ++ [turn]).map (fun u => u.busy.length) ++ [] := by
  have h : turn.Ok := ⟨by decide, by decide, by decide, by simp [turn, Config.latMax], by decide, by decide, by decide⟩
  refine ⟨by simpa using h, { State.reset with host := turn.tape ++ turn.tape, draws := [1, 1] }, rfl, by simp, rfl⟩

/-! The operands of the arithmetic statements, at the ends of their clauses' ranges, the source the bus. -/

theorem test_witness_FromintShiftsOrRangeError :
    (-2 ^ 63 ≤ a128 (-2 ^ 63) ∧ a128 (-2 ^ 63) ≤ 2 ^ 63 - 1) ∧ (-2 ^ 63 ≤ a128 (2 ^ 63 - 1) ∧ a128 (2 ^ 63 - 1) ≤ 2 ^ 63 - 1) ∧
    ¬ (-2 ^ 63 ≤ a128 (2 ^ 63) ∧ a128 (2 ^ 63) ≤ 2 ^ 63 - 1) ∧
    ¬ (-2 ^ 63 ≤ a128 (-2 ^ 63 - 1) ∧ a128 (-2 ^ 63 - 1) ≤ 2 ^ 63 - 1) := by decide +kernel

theorem test_witness_FromuintAndTouintOrRangeError :
    au64 (2 ^ 63 - 1) < 2 ^ 63 ∧ 2 ^ 63 ≤ au64 (2 ^ 63) ∧ 0 ≤ a128 0 ∧ a128 (-1) < 0 := by decide +kernel

theorem test_witness_From128FloorsOrRangeError :
    (-2 ^ 191 ≤ a256 (-2 ^ 191) ∧ a256 (-2 ^ 191) < 2 ^ 191) ∧ a256 (-2 ^ 191 - 1) < -2 ^ 191 ∧ 2 ^ 191 ≤ a256 (2 ^ 191) := by
  decide +kernel

theorem test_witness_FromdecScalesOrFails :
    78 ≤ (78#8).toNat ∧ ((77#8).toNat < 78 ∧ au256 (-1) * 2 ^ 64 / 10 ^ (77#8).toNat ≤ 2 ^ 127 - 1) ∧
    ((0#8).toNat < 78 ∧ au256 (2 ^ 63 - 1) * 2 ^ 64 / 10 ^ (0#8).toNat ≤ 2 ^ 127 - 1) ∧
    ((0#8).toNat < 78 ∧ 2 ^ 127 - 1 < au256 (2 ^ 63) * 2 ^ 64 / 10 ^ (0#8).toNat) := by decide +kernel

theorem test_witness_TodecScalesOrFails :
    a128 (-1) < 0 ∧ (0 ≤ a128 0 ∧ 78 ≤ (78#8).toNat) ∧
    (0 ≤ a128 (2 ^ 64) ∧ (77#8).toNat < 78 ∧ 2 ^ 256 ≤ a128 (2 ^ 64) * 10 ^ (77#8).toNat) ∧
    (0 ≤ a128 1 ∧ (77#8).toNat < 78 ∧ a128 1 * 10 ^ (77#8).toNat < 2 ^ 256) := by decide +kernel

theorem test_witness_ConversionsRoundTrip :
    ((-2 ^ 63 : Int) ≤ -2 ^ 63 ∧ (-2 ^ 63 : Int) ≤ 2 ^ 63 - 1) ∧ ((0 : Int) ≤ 2 ^ 63 - 1 ∧ (2 ^ 63 - 1 : Int) ≤ 2 ^ 63 - 1) ∧
    Fits (-2 ^ 127) ∧ (Fits 1 ∧ (0 : Int) ≤ 1 ∧ (20#8).toNat ≤ 77 ∧ Gives (.todec .bus 20) quiet 1 0 5) :=
  ⟨by decide +kernel, by decide +kernel, by unfold Fits; decide +kernel,
    by unfold Fits; decide +kernel, by decide, by decide, gives_of_lands (by decide +kernel)⟩

theorem test_witness_AddAndSubAreExactOrOverflow :
    Fits (signed128 (srcA (on (2 ^ 127 - 1) (-2 ^ 127)) .bus) + signed128 (srcB (on (2 ^ 127 - 1) (-2 ^ 127)) .bus)) ∧
    ¬ Fits (signed128 (srcA (on (2 ^ 127 - 1) 1) .bus) + signed128 (srcB (on (2 ^ 127 - 1) 1) .bus)) ∧
    Fits (signed128 (srcA (on (-1) (2 ^ 127 - 1)) .bus) - signed128 (srcB (on (-1) (2 ^ 127 - 1)) .bus)) ∧
    ¬ Fits (signed128 (srcA (on 0 (-2 ^ 127)) .bus) - signed128 (srcB (on 0 (-2 ^ 127)) .bus)) := by
  unfold Fits; decide +kernel

theorem test_witness_NegAndAbsOverflowOnlyAtMin : a128 (1 - 2 ^ 127) ≠ -2 ^ 127 ∧ a128 (-2 ^ 127) = -2 ^ 127 := by decide +kernel

theorem test_witness_LinearLaws :
    (Fits (1 - 2 ^ 127) ∧ (1 - 2 ^ 127 : Int) ≠ -2 ^ 127) ∧
    (Fits 3 ∧ Fits 5 ∧ Gives (.sub .bus .bus) quiet 3 5 (-2) ∧ Gives (.sub .bus .bus) quiet 5 3 2) :=
  ⟨by unfold Fits; decide +kernel, by unfold Fits; decide +kernel, by unfold Fits; decide +kernel,
    gives_of_lands (by decide +kernel), gives_of_lands (by decide +kernel)⟩

theorem test_witness_MulTruncatesOrOverflows :
    Fits (truncDiv (signed128 (srcA (on (-2 ^ 127) (2 ^ 64)) .bus) * signed128 (srcB (on (-2 ^ 127) (2 ^ 64)) .bus)) (2 ^ 64)) ∧
    ¬ Fits (truncDiv (signed128 (srcA (on (-2 ^ 127) (-2 ^ 64)) .bus) * signed128 (srcB (on (-2 ^ 127) (-2 ^ 64)) .bus)) (2 ^ 64)) := by
  unfold Fits; decide +kernel

theorem test_witness_MuliTruncatesOrOverflows :
    (-2 ^ 255 ≤ a128 1 * b256 (-2 ^ 255) ∧ a128 1 * b256 (-2 ^ 255) ≤ 2 ^ 255 - 1) ∧
    ¬ (-2 ^ 255 ≤ a128 (-1) * b256 (-2 ^ 255) ∧ a128 (-1) * b256 (-2 ^ 255) ≤ 2 ^ 255 - 1) := by decide +kernel

theorem test_witness_MuluFloorsOrFails :
    a128 (-1) < 0 ∧ (0 ≤ a128 (2 ^ 64) ∧ a128 (2 ^ 64) * bu256 (2 ^ 192 - 1) < 2 ^ 256) ∧
    (0 ≤ a128 (2 ^ 64) ∧ 2 ^ 256 ≤ a128 (2 ^ 64) * bu256 (2 ^ 192)) := by decide +kernel

theorem test_witness_DivAndDiviTruncateOrFail :
    b128 0 = 0 ∧ (b128 1 ≠ 0 ∧ Fits (truncDiv (a128 (-2 ^ 63) * 2 ^ 64) (b128 1))) ∧
    (b128 1 ≠ 0 ∧ ¬ Fits (truncDiv (a128 (2 ^ 63) * 2 ^ 64) (b128 1))) ∧
    b256 0 = 0 ∧ (b256 1 ≠ 0 ∧ Fits (truncDiv (a256 (-2 ^ 63) * 2 ^ 64) (b256 1))) ∧
    (b256 1 ≠ 0 ∧ ¬ Fits (truncDiv (a256 (2 ^ 63) * 2 ^ 64) (b256 1))) := by
  unfold Fits; decide +kernel

theorem test_witness_DivuFloorsOrFails :
    bu256 0 = 0 ∧ (bu256 1 ≠ 0 ∧ au256 (2 ^ 63 - 1) * 2 ^ 64 / bu256 1 ≤ 2 ^ 127 - 1) ∧
    (bu256 1 ≠ 0 ∧ 2 ^ 127 - 1 < au256 (2 ^ 63) * 2 ^ 64 / bu256 1) := by decide +kernel

theorem test_witness_InvFailsOnlyNearZero :
    a128 0 = 0 ∧ (a128 (-1) = -1 ∧ a128 1 = 1 ∧ a128 2 = 2) ∧ a128 (-2) < -1 ∧ 2 < a128 3 := by decide +kernel

theorem test_witness_MultiplicativeLaws :
    Fits (2 ^ 127 - 1) ∧
    (Fits 3 ∧ (3 : Int) ≠ -2 ^ 127 ∧ Fits (2 ^ 64) ∧ (2 ^ 64 : Int) ≠ -2 ^ 127 ∧ Gives (.mul .bus .bus) quiet 3 (2 ^ 64) 3) ∧
    (Fits 999 ∧ Fits (1000 * 2 ^ 64) ∧ Fits 0 ∧ Gives (.div .bus .bus) quiet 999 (1000 * 2 ^ 64) 0 ∧
      Gives (.mul .bus .bus) quiet 0 (1000 * 2 ^ 64) 0) ∧
    ((3 : Int) ∣ 6 * 2 ^ 64 ∧ |(2 ^ 64 + 1 : Int)| ≤ 2 ^ 64 + 1) := by
  refine ⟨?_, ⟨?_, ?_, ?_, ?_, gives_of_lands ?_⟩, ⟨?_, ?_, ?_, gives_of_lands ?_, gives_of_lands ?_⟩, ?_, ?_⟩ <;>
    first | decide +kernel | (unfold Fits; decide +kernel)

theorem test_witness_GavgIsTheFloorRootOfTheProduct :
    signed128 (srcA (on 1 (-1)) .bus) * signed128 (srcB (on 1 (-1)) .bus) < 0 ∧
    (signed128 (srcA (on (-2 ^ 127) (-2 ^ 127)) .bus) = -2 ^ 127 ∧ signed128 (srcB (on (-2 ^ 127) (-2 ^ 127)) .bus) = -2 ^ 127) ∧
    (0 ≤ signed128 (srcA (on (-2 ^ 127) (1 - 2 ^ 127)) .bus) * signed128 (srcB (on (-2 ^ 127) (1 - 2 ^ 127)) .bus) ∧
      ¬ (signed128 (srcA (on (-2 ^ 127) (1 - 2 ^ 127)) .bus) = -2 ^ 127 ∧
        signed128 (srcB (on (-2 ^ 127) (1 - 2 ^ 127)) .bus) = -2 ^ 127)) := by decide +kernel

/-- The loop ends with a value at exponents 0, 1, 2 and 3, and with OverflowError in either product. -/
theorem test_witness_PowRunsTheSquareAndMultiplyLoop :
    PowLoop (2 ^ 64) (a128 (-2 ^ 127)) (srcB (on 0 0) .bus).toNat (some (2 ^ 64)) ∧
    PowLoop (2 ^ 64) (a128 (-2 ^ 127)) (srcB (on 0 1) .bus).toNat (some (-2 ^ 127)) ∧
    PowLoop (2 ^ 64) (a128 (2 ^ 65)) (srcB (on 0 2) .bus).toNat (some (2 ^ 66)) ∧
    PowLoop (2 ^ 64) (a128 (2 ^ 65)) (srcB (on 0 3) .bus).toNat (some (2 ^ 67)) ∧
    PowLoop (2 ^ 64) (a128 (-2 ^ 127)) (srcB (on 0 2) .bus).toNat none ∧
    PowLoop (2 ^ 64) (a128 (2 ^ 95)) (srcB (on 0 3) .bus).toNat none := by
  refine ⟨?_, ?_, ?_, ?_, ?_, ?_⟩
  · rw [show (srcB (on 0 0) .bus).toNat = 0 by decide +kernel]; exact .done ..
  · rw [show (srcB (on 0 1) .bus).toNat = 1 by decide +kernel]
    rw [show (-2 ^ 127 : Int) = truncDiv (2 ^ 64 * a128 (-2 ^ 127)) (2 ^ 64) by decide +kernel]
    exact .last _ _ (by unfold Fits; decide +kernel)
  · rw [show (srcB (on 0 2) .bus).toNat = 2 by decide +kernel, show a128 (2 ^ 65) = 2 ^ 65 by decide +kernel]
    refine .even _ _ _ _ rfl (by decide) (by unfold Fits; decide +kernel) ?_
    rw [show (2 ^ 66 : Int) = truncDiv (2 ^ 64 * truncDiv (2 ^ 65 * 2 ^ 65) (2 ^ 64)) (2 ^ 64) by decide +kernel]
    exact .last _ _ (by unfold Fits; decide +kernel)
  · rw [show (srcB (on 0 3) .bus).toNat = 3 by decide +kernel, show a128 (2 ^ 65) = 2 ^ 65 by decide +kernel]
    refine .odd _ _ _ _ rfl (by decide) (by unfold Fits; decide +kernel) (by unfold Fits; decide +kernel) ?_
    rw [show (2 ^ 67 : Int) = truncDiv (truncDiv (2 ^ 64 * 2 ^ 65) (2 ^ 64) * truncDiv (2 ^ 65 * 2 ^ 65) (2 ^ 64)) (2 ^ 64) by
      decide +kernel]
    exact .last _ _ (by unfold Fits; decide +kernel)
  · rw [show (srcB (on 0 2) .bus).toNat = 2 by decide +kernel]
    exact .squareOverflows _ _ _ (by decide) (fun h => absurd h (by decide)) (by unfold Fits; decide +kernel)
  · rw [show (srcB (on 0 3) .bus).toNat = 3 by decide +kernel, show a128 (2 ^ 95) = 2 ^ 95 by decide +kernel]
    refine .odd _ _ _ _ rfl (by decide) (by unfold Fits; decide +kernel) (by unfold Fits; decide +kernel) ?_
    exact .accOverflows _ _ _ rfl (by unfold Fits; decide +kernel)

theorem test_witness_SqrtIsTheFloorRoot : a128 (-1) < 0 ∧ 0 ≤ a128 0 ∧ 0 ≤ a128 (2 ^ 127 - 1) := by decide +kernel

theorem test_witness_Log2IsTheBitRecurrence : a128 0 ≤ 0 ∧ 0 < a128 1 ∧ 0 < a128 (2 ^ 127 - 1) := by decide +kernel

theorem test_witness_LnIsLog2TimesLn2 : a128 (-1) ≤ 0 ∧ a128 0 ≤ 0 ∧ 0 < a128 1 := by decide +kernel

theorem test_witness_Exp2IsTheTableExpansion :
    63 * 2 ^ 64 ≤ a128 (63 * 2 ^ 64) ∧ a128 (-64 * 2 ^ 64 - 1) < -64 * 2 ^ 64 ∧
    (-64 * 2 ^ 64 ≤ a128 (-64 * 2 ^ 64) ∧ a128 (-64 * 2 ^ 64) < 63 * 2 ^ 64) ∧
    (-64 * 2 ^ 64 ≤ a128 (63 * 2 ^ 64 - 1) ∧ a128 (63 * 2 ^ 64 - 1) < 63 * 2 ^ 64) := by decide +kernel

theorem test_witness_ExpReducesToExp2 :
    805537444647767306582 ≤ a128 805537444647767306582 ∧ a128 (-64 * 2 ^ 64 - 1) < -64 * 2 ^ 64 ∧
    (-64 * 2 ^ 64 ≤ a128 (-64 * 2 ^ 64) ∧ a128 (-64 * 2 ^ 64) ≤ 805537444647767306581 ∧
      truncDiv (a128 (-64 * 2 ^ 64) * 26613026195688644983) (2 ^ 64) < -64 * 2 ^ 64) ∧
    (-64 * 2 ^ 64 ≤ a128 805537444647767306581 ∧ a128 805537444647767306581 ≤ 805537444647767306581 ∧
      -64 * 2 ^ 64 ≤ truncDiv (a128 805537444647767306581 * 26613026195688644983) (2 ^ 64)) := by decide +kernel

theorem test_witness_RootLaws :
    ((0 : Int) ≤ 3037000499 ∧ (3037000499 * 3037000499 : Int) < 2 ^ 63) ∧ (Fits (1 - 2 ^ 127) ∧ (1 - 2 ^ 127 : Int) ≠ -2 ^ 127) ∧
    (Fits (2 ^ 127 - 1) ∧ (0 : Int) ≤ 2 ^ 127 - 1) := by
  unfold Fits; decide +kernel

theorem test_witness_LogAndExpLaws :
    (0 : Nat) ≤ 126 ∧ (126 : Nat) ≤ 126 ∧
    ((0 : Int) < 1 ∧ (1 : Int) ≤ 3 * 2 ^ 64 ∧ Fits (3 * 2 ^ 64) ∧ Fits (-64 * 2 ^ 64) ∧ Fits 29237397617229858719 ∧
      Gives (.log2 .bus) quiet 1 0 (-64 * 2 ^ 64) ∧ Gives (.log2 .bus) quiet (3 * 2 ^ 64) 0 29237397617229858719) := by
  refine ⟨?_, ?_, ?_, ?_, ?_, ?_, ?_, gives_of_lands ?_, gives_of_lands ?_⟩ <;>
    first | decide +kernel | (unfold Fits; decide +kernel)

theorem test_witness_PowLaws :
    Fits (-2 ^ 127) ∧ (|(-2 ^ 64 : Int)| ≤ 2 ^ 64 ∧ (0 : Int) ≤ 2 ^ 256 - 1 ∧ (2 ^ 256 - 1 : Int) < 2 ^ 256) := by
  unfold Fits; decide +kernel

/-- The clauses on STICKY: CLRST clears it, and a reset edge does. -/
theorem test_witness_NopAndClrstKeepRes :
    (∃ t, exec .clrst { quiet with sticky := true } = .next t ∧ t.sticky = false) ∧
    State.ports { quiet with sticky := true, host := [resetPorts] } = resetPorts ∧ resetPorts.rst = true :=
  ⟨⟨_, rfl, rfl⟩, rfl, rfl⟩

theorem test_witness_LdcCommitsTheConstant :
    (0#8).toNat = 0 ∧ (1#8).toNat = 1 ∧ (2#8).toNat = 2 ∧ (3#8).toNat = 3 ∧ (4#8).toNat = 4 ∧ 4 < (5#8).toNat := by decide

end Sys2Proof.Tests
end

section
/-! PROOFS. The bound on the cycles left in BUSY (R9, R10): which edges can lead to BUSY, and with how many cycles left. -/

namespace Sys2Proof.Safety

open Sys2Proof.Machine

/-- Outside BUSY no cycle is counted. -/
theorem Bounded.of_phase_ne_busy {s : State} (h : s.phase ≠ .busy) : Bounded s :=
  fun hb => absurd hb h

/-- The bound speaks of FXP64's own registers, which the environment's tick leaves alone. -/
theorem bounded_tick {s : State} : Bounded s.tick ↔ Bounded s := Iff.rfl

/-- The reset state is in IDLE (R48). -/
theorem bounded_reset : Bounded State.reset := .of_phase_ne_busy nofun

/-- Acceptance starts the count at the drawn latency (R51). -/
theorem bounded_latch (s u : State) : Bounded (s.latch u) :=
  fun _ => (latency_bounds s).2

/-- An edge in BUSY completes the command, or only lowers the count (R52). -/
theorem bounded_countDown {s : State} (hs : Bounded s) : Bounded s.countDown := by
  obtain ⟨-, h⟩ | ⟨-, h⟩ := countDown_cases s
  · rw [h]
    exact .of_phase_ne_busy nofun
  · rw [h]
    exact fun hb => (Nat.sub_le s.cnt 1).trans (hs hb)

/-- Every edge keeps the bound: acceptance draws within it, BUSY counts down, and no other edge touches the count. -/
theorem step_keeps_bounded {s t : State} (hs : Bounded s) (hst : step s = .next t) : Bounded t := by
  obtain ⟨t', ht', hcases⟩ := step_cases s
  obtain rfl : t' = t := by simpa [ht'] using hst
  obtain ⟨-, rfl⟩ | ⟨-, -, -, u, -, rfl⟩ | ⟨-, -, -, rfl⟩ | ⟨-, -, rfl⟩ | ⟨-, -, -, rfl⟩ | ⟨-, -, -, rfl⟩ := hcases
  · exact .of_phase_ne_busy nofun
  · exact bounded_tick.2 (bounded_latch s u)
  · exact bounded_tick.2 hs
  · exact bounded_tick.2 (bounded_countDown hs)
  · exact .of_phase_ne_busy nofun
  · exact bounded_tick.2 hs

/-- Settles O26: draws by `latency_bounds` and `latency_eq`, the count by `bounded_reset` and `step_keeps_bounded`. -/
theorem latencyStaysWithinItsBound : Obligations.LatencyStaysWithinItsBound := by
  unfold Obligations.LatencyStaysWithinItsBound
  exact ⟨latency_bounds, fun _ _ h1 h2 => latency_eq rfl h1 h2, bounded_reset, fun _ _ => step_keeps_bounded⟩

end Sys2Proof.Safety
end

section
/-! PROOFS. When a form of word is a command (R72, R73, R77), and the one word of CLRST (R223). -/

namespace Sys2Proof

variable {sa sb : BitVec 1} {imm : BitVec 8} {i : Instr}

@[simp] theorem formNone_eq_ok {j : Instr} :
    formNone sa sb imm j = .ok i ↔ sa = 0#1 ∧ sb = 0#1 ∧ imm = 0#8 ∧ j = i := by
  unfold formNone; split_ifs <;> simp_all

@[simp] theorem formA_eq_ok {f : Src → Instr} :
    formA sa sb imm f = .ok i ↔ sb = 0#1 ∧ imm = 0#8 ∧ f (srcOfBit sa) = i := by
  unfold formA; split_ifs <;> simp_all

@[simp] theorem formAB_eq_ok {f : Src → Src → Instr} :
    formAB sa sb imm f = .ok i ↔ imm = 0#8 ∧ f (srcOfBit sa) (srcOfBit sb) = i := by
  unfold formAB; split_ifs <;> simp_all

@[simp] theorem formADec_eq_ok {f : Src → BitVec 8 → Instr} :
    formADec sa sb imm f = .ok i ↔ sb = 0#1 ∧ f (srcOfBit sa) imm = i := by
  unfold formADec; split_ifs <;> simp_all

@[simp] theorem formRom_eq_ok :
    formRom sa sb imm = .ok i ↔ sa = 0#1 ∧ sb = 0#1 ∧ imm.toNat ≤ 4 ∧ .ldc imm = i := by
  unfold formRom; split_ifs <;> simp_all

/-- Only the opcode of CLRST, with every other field 0, is CLRST. -/
theorem decodeOp_eq_clrst {op : Nat} (h : decodeOp op sa sb imm = .ok .clrst) :
    op = 0x32 ∧ sa = 0#1 ∧ sb = 0#1 ∧ imm = 0#8 := by
  unfold decodeOp at h
  split at h <;> simp only [formNone_eq_ok, formA_eq_ok, formAB_eq_ok, formADec_eq_ok, formRom_eq_ok, reduceCtorEq,
    and_false, and_true] at h
  exact ⟨rfl, h⟩

/-- CLRST has one word (R223). -/
theorem eq_of_decode_eq_clrst {w : CmdWord} (h : decode w = .ok .clrst) : w = 0x00000032 := by
  unfold decode at h
  split_ifs at h with hrsv
  obtain ⟨hop, hsa, hsb, himm⟩ := decodeOp_eq_clrst h
  have hop' : opField w = 0x32#6 := BitVec.eq_of_toNat_eq hop
  rw [← wordOf_fields w (not_not.1 hrsv), hop', hsa, hsb, himm]
  decide

end Sys2Proof
end

section
/-! PROOFS. Every command but NOP and CLRST is a rule on the integers its operands denote, and ends as the rule says (R47). -/

namespace Sys2Proof.Machine

/-- The integer an operand of a row denotes; 0 where the row has no such operand. -/
def reading (ty : Option ValueType) (v : Bus) : Int := ty.elim 0 (readAs · v)

/-- The integer that operand A of a command denotes (R33, R34). -/
def State.readingA (s : State) (i : Instr) : Int := reading i.row.operandA (s.operandA (srcOfBit i.saBit))

/-- The integer that operand B of a command denotes (R33, R34). -/
def State.readingB (s : State) (i : Instr) : Int := reading i.row.operandB (s.operandB (srcOfBit i.sbBit))

/-- The rule of a command, on the integers its operands denote. NOP and CLRST end without a value and have none. -/
def ruleOf (i : Instr) (x y : Int) : Option (Except ErrorKind Int) :=
  match i with
  | .nop | .clrst => none
  | .fromint _ => fromIntRule x
  | .toint _ => toIntRule x
  | .fromuint _ => fromUintRule x
  | .touint _ => toUintRule x
  | .from128 _ => from128Rule x
  | .to128 _ => to128Rule x
  | .fromdec _ d => fromDecRule x d.toNat
  | .todec _ d => toDecRule x d.toNat
  | .add _ _ => addRule x y
  | .sub _ _ => subRule x y
  | .neg _ => negRule x
  | .abs _ => absRule x
  | .avg _ _ => avgRule x y
  | .mul _ _ => mulRule x y
  | .muli _ _ => muliRule x y
  | .mulu _ _ => muluRule x y
  | .div _ _ => divRule x y
  | .divi _ _ => diviRule x y
  | .divu _ _ => divuRule x y
  | .inv _ => invRule x
  | .gavg _ _ => gavgRule x y
  | .pow _ _ => powRule x y
  | .sqrt _ => sqrtRule x
  | .log2 _ => log2Rule x
  | .ln _ => lnRule x
  | .exp2 _ => exp2Rule exp2Table x
  | .exp _ => expRule exp2Table x
  | .mov _ => some (.ok x)
  | .ldc k => some ((rom k).elim (.error .illegalCommand) .ok)

/-- A command that has a rule ends as its rule says. -/
theorem exec_eq_finish {i : Instr} {s : State} {r : Except ErrorKind Int}
    (h : ruleOf i (s.readingA i) (s.readingB i) = some r) : exec i s = .next (s.finish r) := by
  cases i with
  | nop | clrst => cases h
  | ldc k => cases h; cases hk : rom k <;> simp [exec, execLdc, hk, State.finish]
  | _ =>
    cases h
    simp only [State.readingA, State.readingB, Instr.saBit, Instr.sbBit, srcOfBit_bit]
    rfl

/-- The three kinds of command: NOP, CLRST, and one that ends as its rule says (R47). -/
theorem exec_cases (i : Instr) (s : State) :
    (i = .nop ∧ exec i s = .next s.commitNone) ∨ (i = .clrst ∧ exec i s = .next s.clearSticky.commitNone) ∨
    (i ≠ .nop ∧ i ≠ .clrst ∧ ∃ r, ruleOf i (s.readingA i) (s.readingB i) = some r ∧ exec i s = .next (s.finish r)) := by
  cases i with
  | nop => exact .inl ⟨rfl, rfl⟩
  | clrst => exact .inr (.inl ⟨rfl, rfl⟩)
  | _ => exact .inr (.inr ⟨nofun, nofun, _, rfl, exec_eq_finish rfl⟩)

end Sys2Proof.Machine
end

section
/-! PROOFS. The endings of a command and what they depend on (R37 to R41, R33, R34). -/

namespace Sys2Proof.Safety

open Sys2Proof.Machine

/-- A success shows only its integer's 256-bit two's complement, which is the integer of an int256. -/
theorem succeeded_toInt_ofInt (s : State) (v : Int) : succeeded s (BitVec.ofInt 256 v).toInt = succeeded s v := by
  simp only [succeeded, BitVec.ofInt_toInt]

/-- The codes of R240. -/
theorem code_bounds (e : ErrorKind) : 1 ≤ e.code.toNat ∧ e.code.toNat ≤ 5 := by cases e <;> decide

/-- Settles O17: NOP and CLRST by their equations, every other command by the ending of its rule (`exec_cases`). -/
theorem everyCommandEndsInOneOfThreeWays : Obligations.EveryCommandEndsInOneOfThreeWays := by
  intro i s
  obtain ⟨hi, h⟩ | ⟨hi, h⟩ | ⟨hnop, hclrst, r, -, h⟩ := exec_cases i s
  · exact ⟨_, h, .inr (.inr (.inl ⟨hi, rfl⟩))⟩
  · exact ⟨_, h, .inr (.inr (.inr ⟨hi, rfl⟩))⟩
  · refine ⟨_, h, ?_⟩
    obtain ⟨v, -, hv⟩ | ⟨e, -, he⟩ := finish_cases s r
    · rw [hv]
      have hlow := (BitVec.ofInt 256 v).le_toInt
      have hhigh := (BitVec.ofInt 256 v).toInt_lt
      exact .inl ⟨hnop, hclrst, (BitVec.ofInt 256 v).toInt, by omega, by omega, (succeeded_toInt_ofInt s v).symm⟩
    · rw [he]
      exact .inr (.inl ⟨e.code, (code_bounds e).1, (code_bounds e).2, rfl⟩)

/-- Settles O21: the operands are read from RES and the buses, and the rule's ending writes the rest. -/
theorem noCommandReadsStatus : Obligations.NoCommandReadsStatus := by
  intro i s t c b ht
  obtain ⟨rfl, h⟩ | ⟨rfl, h⟩ | ⟨-, -, r, hr, h⟩ := exec_cases i s <;>
    obtain rfl := Host.Outcome.next.inj (h.symm.trans ht)
  · exact ⟨_, rfl, rfl, rfl, rfl, rfl⟩
  · exact ⟨_, rfl, rfl, rfl, rfl, rfl⟩
  · refine ⟨_, exec_eq_finish (s := { s with lastErr := c, sticky := b }) hr, ?_⟩
    cases r with
    | ok v => exact ⟨rfl, rfl, rfl, rfl⟩
    | error e => exact ⟨rfl, rfl, rfl, rfl⟩

/-- An operand's integer depends on the bits of its field only (R33). -/
theorem readAs_congr {ty : ValueType} {v v' : Bus} (h : v.toNat % 2 ^ fieldBits ty = v'.toNat % 2 ^ fieldBits ty) :
    readAs ty v = readAs ty v' := by
  have hext (n : Nat) (hn : v.toNat % 2 ^ n = v'.toNat % 2 ^ n) : v.extractLsb' 0 n = v'.extractLsb' 0 n :=
    BitVec.eq_of_toNat_eq (by simpa using hn)
  have hfull (hn : v.toNat % 2 ^ 256 = v'.toNat % 2 ^ 256) : v = v' :=
    BitVec.eq_of_toNat_eq (by rwa [Nat.mod_eq_of_lt v.isLt, Nat.mod_eq_of_lt v'.isLt] at hn)
  cases ty with
  | fixed | int128 => rw [readAs, readAs, hext 128 h]
  | int64 | uint64 => rw [readAs, readAs, hext 64 h]
  | int256 | uint256 => rw [hfull h]

/-- What an operand denotes, where two buses agree on the field it reads if it reads its bus (R33, R34). -/
theorem reading_congr {ty : Option ValueType} {x : BitVec 1} {f : Src → Bus} {g : Src → Bus} (hres : f .res = g .res)
    (hbus : ∀ y, ty = some y → x = 0 → (f .bus).toNat % 2 ^ fieldBits y = (g .bus).toNat % 2 ^ fieldBits y) :
    reading ty (f (srcOfBit x)) = reading ty (g (srcOfBit x)) := by
  cases ty with
  | none => simp only [reading, Option.elim_none]
  | some y =>
    have hbit : ∀ x : BitVec 1, x ≠ 1#1 → x = 0 := by decide
    by_cases hx : x = 1#1
    · rw [srcOfBit, if_pos hx, hres]
    · rw [srcOfBit, if_neg hx]
      exact readAs_congr (hbus y rfl (hbit x hx))

/-- A rule's outcome depends on the rule's answer, RES and STICKY only. -/
theorem finish_outcomeOf_congr {s t : State} (hr : s.res = t.res) (hk : s.sticky = t.sticky) (r : Except ErrorKind Int) :
    (s.finish r).outcomeOf = (t.finish r).outcomeOf := by
  cases r <;> simp [State.finish, hr, hk]

/-- Settles O22: bus values that agree on the fields read give the same integers to the rule (`reading_congr`). -/
theorem unreadOperandBitsAreIgnored : Obligations.UnreadOperandBitsAreIgnored := by
  intro i s t a b a' b' hA hB ht
  obtain ⟨rfl, h⟩ | ⟨rfl, h⟩ | ⟨-, -, r, hr, h⟩ := exec_cases i (withBuses s a b) <;>
    obtain rfl := Host.Outcome.next.inj (h.symm.trans ht)
  · exact ⟨_, rfl, rfl⟩
  · exact ⟨_, rfl, rfl⟩
  · have hA' : (withBuses s a b).readingA i = (withBuses s a' b').readingA i :=
      reading_congr (f := (withBuses s a b).operandA) (g := (withBuses s a' b').operandA) rfl hA
    have hB' : (withBuses s a b).readingB i = (withBuses s a' b').readingB i :=
      reading_congr (f := (withBuses s a b).operandB) (g := (withBuses s a' b').operandB) rfl hB
    rw [hA', hB'] at hr
    exact ⟨_, exec_eq_finish hr, finish_outcomeOf_congr (s := withBuses s a' b') (t := withBuses s a b) rfl rfl r⟩

end Sys2Proof.Safety
end

section
/-! PROOFS. The invariant of the block (R22, R37 to R40, R52): what acceptance latches, and then each kind of edge. -/

namespace Sys2Proof.Safety

open Sys2Proof.Machine

variable {s t u : State}

/-- Of all words, only that of CLRST clears STICKY (R40, R223). -/
theorem cmd_of_execWord_clears_sticky (h : s.execWord = .next u) (hs : s.sticky = true) (hu : u.sticky = false) :
    s.ports.cmd = 0x00000032 := by
  unfold State.execWord at h
  cases hd : decode s.ports.cmd with
  | error e =>
    rw [hd] at h
    cases h
    cases hu
  | ok i =>
    rw [hd] at h
    obtain ⟨t, ht, ht'⟩ := exec_ending i s
    obtain rfl : t = u := Host.Outcome.next.inj (ht.symm.trans h)
    obtain ⟨v, rfl⟩ | ⟨e, rfl⟩ | rfl | ⟨rfl, -⟩ := ht'
    · simp [hs] at hu
    · simp at hu
    · simp [hs] at hu
    · exact eq_of_decode_eq_clrst hd

/-- The outcome of every word is consistent, and keeps RES where it reports an error (R37 to R39). -/
theorem execWord_consistent (h : s.execWord = .next u) : Consistent u.outcomeOf ∧ (u.lastErr ≠ 0 → u.res = s.res) := by
  obtain ⟨t, ht, ht'⟩ := execWord_ending s
  obtain rfl : t = u := Host.Outcome.next.inj (ht.symm.trans h)
  obtain ⟨v, rfl⟩ | ⟨e, rfl⟩ | rfl | rfl := ht'
  · simp [Consistent]
  · have hcode : e.code ≠ 0#3 := fun h0 => absurd (code_bounds e).1 (by simp [h0])
    simp [Consistent, hcode, (code_bounds e).2]
  · simp [Consistent]
  · simp [Consistent]

/-- The invariant speaks of FXP64's own registers, which the environment's tick leaves alone. -/
theorem inv_tick (hs : Inv s) : Inv s.tick := { hs with }

/-- In IDLE with no response held, only STATUS is left to ask of. -/
theorem Inv.of_idle (hcode : s.lastErr.toNat ≤ 5) (hsticky : s.lastErr ≠ 0 → s.sticky = true) (hp : s.phase = .idle)
    (hrsp : s.rspRes = 0 ∧ s.rspErr = 0) : Inv s where
  code_legal := hcode
  failure_sticky := hsticky
  no_response _ := hrsp
  response h := by simp [hp] at h
  busy_count h := by simp [hp] at h
  busy_outcome h := by simp [hp] at h
  busy_res h := by simp [hp] at h
  busy_sticky h := by simp [hp] at h

theorem inv_resetBlock (s : State) : Inv s.resetBlock := .of_idle (Nat.zero_le 5) nofun rfl ⟨rfl, rfl⟩

theorem inv_consume (hs : Inv s) : Inv s.consume := .of_idle hs.code_legal hs.failure_sticky rfl ⟨rfl, rfl⟩

/-- Acceptance latches the outcome of the word at the ports, which is consistent, and a drawn latency (R51). -/
theorem inv_latch (hs : Inv s) (hidle : s.phase = .idle) (hu : s.execWord = .next u) : Inv (s.latch u) where
  code_legal := hs.code_legal
  failure_sticky := hs.failure_sticky
  no_response _ := hs.no_response (by simp [hidle])
  response := nofun
  busy_count _ := (latency_bounds s).1
  busy_outcome _ := (execWord_consistent hu).1
  busy_res _ := (execWord_consistent hu).2
  busy_sticky _ hset hclear := cmd_of_execWord_clears_sticky (s := s) hu hset hclear

/-- Completion puts the consistent outcome into RES, STATUS and the response (R52). -/
theorem inv_complete (hs : Inv s) (hbusy : s.phase = .busy) : Inv s.complete where
  code_legal := (hs.busy_outcome hbusy).1
  failure_sticky := (hs.busy_outcome hbusy).2.1
  no_response h := absurd rfl h
  response _ := hs.busy_outcome hbusy
  busy_count := nofun
  busy_outcome := nofun
  busy_res := nofun
  busy_sticky := nofun

theorem inv_countDown (hs : Inv s) (hbusy : s.phase = .busy) : Inv s.countDown := by
  obtain ⟨-, h⟩ | ⟨hcnt, h⟩ := countDown_cases s
  · rw [h]
    exact inv_complete hs hbusy
  · rw [h]
    exact { hs with busy_count := fun _ => Nat.le_sub_one_of_lt hcnt }

/-- Settles O24: each kind of edge (`step_cases`) by the lemma on what it does to the state. -/
theorem everyStepKeepsTheBlockInvariant : Obligations.EveryStepKeepsTheBlockInvariant := by
  intro s t hs hst
  obtain ⟨t', ht', hcases⟩ := step_cases s
  obtain rfl : t' = t := Host.Outcome.next.inj (ht'.symm.trans hst)
  obtain ⟨-, rfl⟩ | ⟨-, hidle, -, u, hu, rfl⟩ | ⟨-, -, -, rfl⟩ | ⟨-, hbusy, rfl⟩ | ⟨-, -, -, rfl⟩ | ⟨-, -, -, rfl⟩ := hcases
  · exact inv_tick (inv_resetBlock s)
  · exact inv_tick (inv_latch hs hidle hu)
  · exact inv_tick hs
  · exact inv_tick (inv_countDown hs hbusy)
  · exact inv_tick (inv_consume hs)
  · exact inv_tick hs

/-- Settles O25: the reset state is in IDLE, with STATUS and the response registers 0 (R48). -/
theorem blockInvariantHoldsAtReset : Obligations.BlockInvariantHoldsAtReset :=
  .of_idle (Nat.zero_le 5) nofun rfl ⟨rfl, rfl⟩

/-- Settles O23: acceptance, waits and consumption keep STICKY, and a completion's outcome is that of the latched word. -/
theorem onlyClrstAndResetClearSticky : Obligations.OnlyClrstAndResetClearSticky := by
  refine ⟨fun s t hs hst hset hclear => ?_, fun s t => cmd_of_execWord_clears_sticky⟩
  obtain ⟨t', ht', hcases⟩ := step_cases s
  obtain rfl : t' = t := Host.Outcome.next.inj (ht'.symm.trans hst)
  have hkept {u : State} (hu : u.sticky = s.sticky) (hc : u.sticky = false) : False := by simp [hu, hset] at hc
  obtain ⟨hrst, -⟩ | ⟨-, -, -, u, -, rfl⟩ | ⟨-, -, -, rfl⟩ | ⟨-, hbusy, rfl⟩ | ⟨-, -, -, rfl⟩ | ⟨-, -, -, rfl⟩ := hcases
  · exact .inl hrst
  · exact (hkept (latch_sticky s u) hclear).elim
  · exact (hkept rfl hclear).elim
  · obtain ⟨hcnt, h⟩ | ⟨-, h⟩ := countDown_cases s
    · rw [h] at hclear
      exact .inr ⟨hbusy, le_antisymm hcnt (hs.busy_count hbusy), hs.busy_sticky hbusy hset hclear⟩
    · rw [h] at hclear
      exact (hkept rfl hclear).elim
  · exact (hkept (consume_sticky s) hclear).elim
  · exact (hkept rfl hclear).elim

end Sys2Proof.Safety
end

section
/-! PROOFS. The outputs (R22), the reset values (R48), and the latches outside BUSY (R44). -/

namespace Sys2Proof.Safety

open Sys2Proof.Machine

/-- STATUS as a number: STICKY has the weight 8 (R40). -/
theorem status_toNat (s : State) : s.status.toNat = s.lastErr.toNat + (if s.sticky = true then 8 else 0) := by
  have happend := BitVec.toNat_append (BitVec.ofBool s.sticky) s.lastErr
  rw [← Nat.shiftLeft_add_eq_or_of_lt s.lastErr.isLt] at happend
  refine happend.trans ?_
  cases s.sticky <;> simp [Nat.add_comm]

/-- Settles O14: each output is a field of the state, or a test of its phase. -/
theorem outputsFollowTheState : Obligations.OutputsFollowTheState :=
  fun s hs => ⟨beq_iff_eq, beq_iff_eq, rfl, rfl, hs.no_response, rfl, status_toNat s,
    fun _ => ⟨rfl, rfl, rfl, rfl, rfl, rfl⟩⟩

/-- Settles O15: `State.reset`, field by field. -/
theorem resetStateHasTheResetValues : Obligations.ResetStateHasTheResetValues :=
  ⟨rfl, rfl, rfl, rfl, rfl, rfl, rfl, rfl⟩

/-! One equation for each kind of edge outside BUSY, so that the step of a second state needs no case split of its own. -/

variable {s s' u u' : State}

theorem step_eq_reset (h : s.ports.rst = true) : step s = .next s.resetBlock.tick := by
  simp [step, State.clockEdge, h]

theorem step_eq_accept (hr : s.ports.rst = false) (hp : s.phase = .idle) (hv : s.ports.cmdValid = true)
    (hu : s.execWord = .next u) : step s = .next (s.latch u).tick := by
  simp [step, State.clockEdge, State.acceptEdge, hr, hp, hv, hu]

theorem step_eq_idle (hr : s.ports.rst = false) (hp : s.phase = .idle) (hv : s.ports.cmdValid = false) :
    step s = .next s.tick := by
  simp [step, State.clockEdge, hr, hp, hv]

theorem step_eq_consume (hr : s.ports.rst = false) (hp : s.phase = .resp) (hy : s.ports.rspReady = true) :
    step s = .next s.consume.tick := by
  simp [step, State.clockEdge, hr, hp, hy]

theorem step_eq_hold (hr : s.ports.rst = false) (hp : s.phase = .resp) (hy : s.ports.rspReady = false) :
    step s = .next s.tick := by
  simp [step, State.clockEdge, hr, hp, hy]

/-! What states that differ only in the latches have in common, and which updates keep them so. -/

theorem SameButLatches.ports_eq (h : SameButLatches s s') : s'.ports = s.ports := by rw [h]; rfl

theorem SameButLatches.phase_eq (h : SameButLatches s s') : s'.phase = s.phase := by rw [h]

theorem SameButLatches.tick (h : SameButLatches s s') : SameButLatches s.tick s'.tick := by rw [h]; rfl

theorem SameButLatches.consume (h : SameButLatches s s') : SameButLatches s.consume s'.consume := by rw [h]; rfl

/-- A reset edge overwrites the latches (R270). -/
theorem SameButLatches.resetBlock_eq (h : SameButLatches s s') : s'.resetBlock = s.resetBlock := by rw [h]; rfl

/-- Acceptance overwrites the latches (R51). -/
theorem SameButLatches.latch_eq (h : SameButLatches s s') (hout : u'.outcomeOf = u.outcomeOf) :
    s'.latch u' = s.latch u := by
  rw [h]
  simp only [State.latch, hout]
  rfl

/-- `Exec` does not read the latches (R47). -/
theorem SameButLatches.execWord (h : SameButLatches s s') (hu : s.execWord = .next u) :
    ∃ u', s'.execWord = .next u' ∧ u'.outcomeOf = u.outcomeOf := by
  obtain ⟨u', v, hu', hv, hout⟩ := execWord_congr (s := s') (t := s) (by rw [h]) (by rw [h])
    (by rw [h.ports_eq]) (by rw [h.ports_eq]) (by rw [h.ports_eq])
  obtain rfl : v = u := Host.Outcome.next.inj (hv.symm.trans hu)
  exact ⟨u', hu', hout⟩

/-- Settles O27: both states take the same kind of edge; a reset or an acceptance overwrites the latches, and the other edges
outside BUSY do not lead to BUSY. -/
theorem latchesAreNotObservableOutsideBusy : Obligations.LatchesAreNotObservableOutsideBusy := by
  intro s s' hp hs
  have hports := hs.ports_eq
  have hphase := hs.phase_eq
  obtain ⟨t, ht, hcases⟩ := step_cases s
  refine ⟨t, ?_⟩
  rw [← hports, ← hphase] at hcases
  obtain ⟨hr, rfl⟩ | ⟨hr, hi, hv, u, hu, rfl⟩ | ⟨hr, hi, hv, rfl⟩ | ⟨-, hb, -⟩ | ⟨hr, hh, hy, rfl⟩ | ⟨hr, hh, hy, rfl⟩ := hcases
  · exact ⟨s.resetBlock.tick, ht, by rw [step_eq_reset hr, hs.resetBlock_eq], rfl, fun _ => rfl⟩
  · obtain ⟨u', hu', hout⟩ := hs.execWord hu
    exact ⟨(s.latch u).tick, ht, by rw [step_eq_accept hr hi hv hu', hs.latch_eq hout], rfl, fun _ => rfl⟩
  · exact ⟨_, ht, step_eq_idle hr hi hv, hs.tick, fun hb => absurd hb hp⟩
  · exact absurd (hphase.symm.trans hb) hp
  · exact ⟨_, ht, step_eq_consume hr hh hy, hs.consume.tick, nofun⟩
  · exact ⟨_, ht, step_eq_hold hr hh hy, hs.tick, fun hb => absurd hb hp⟩

end Sys2Proof.Safety
end

section
/-! PROOFS. The environment some edges from now (R55), and runs built from edges whose states are known one by one. -/

namespace Sys2Proof.Machine

/-- The environment alone moves on by `k` edges: FXP64's own registers stay. -/
def State.after (s : State) (k : Nat) : State := { s with host := s.host.drop k, edges := s.edges + k }

@[simp] theorem after_host (s : State) (k : Nat) : (s.after k).host = s.host.drop k := rfl

/-- `portsAt` reads the ports of that environment. -/
theorem ports_after (s : State) (k : Nat) : (s.after k).ports = Safety.portsAt s k := rfl

theorem tick_after (s : State) (k : Nat) : s.tick.after k = s.after (k + 1) := by
  simp only [State.after, State.tick, List.drop_tail, Nat.add_assoc, Nat.add_comm 1 k]

theorem after_tick (s : State) (k : Nat) : (s.after k).tick = s.after (k + 1) := by
  simp only [State.after, State.tick, List.tail_drop, Nat.add_assoc]

/-- A run passes through the states of a sequence in which each steps to the next. -/
theorem runEdges_of_steps {f : Nat → State} {k : Nat} (h : ∀ j < k, step (f j) = .next (f (j + 1))) :
    runEdges k (f 0) = .next (f k) := by
  induction k generalizing f with
  | zero => rfl
  | succ k ih =>
    rw [runEdges_succ k (h 0 k.succ_pos)]
    exact ih (f := fun j => f (j + 1)) fun j hj => h (j + 1) (Nat.succ_lt_succ hj)

end Sys2Proof.Machine
end

section
/-! PROOFS. Edges of the handshake, phase by phase (R51 to R54, R60). -/

namespace Sys2Proof.Safety

open Sys2Proof.Machine

variable {s t u v : State}

theorem step_eq_busy (hr : s.ports.rst = false) (hp : s.phase = .busy) : step s = .next s.countDown.tick := by
  simp [step, State.clockEdge, hr, hp]

theorem countDown_eq_count (h : 1 < s.cnt) : s.countDown = { s with cnt := s.cnt - 1 } :=
  if_neg (by omega)

theorem countDown_eq_complete (h : s.cnt ≤ 1) : s.countDown = s.complete :=
  if_pos (by omega)

/-- Source selection by a bit of the word (R34). -/
theorem srcOfBit_extractLsb' (w : CmdWord) (k : Nat) :
    srcOfBit (w.extractLsb' k 1) = if w.getLsbD k = true then .res else .bus := by
  have hbit : w.extractLsb' k 1 = BitVec.ofBool (w.getLsbD k) := by
    ext i hi
    obtain rfl : i = 0 := by omega
    simp
  rw [srcOfBit, hbit]
  cases w.getLsbD k <;> rfl

/-- Bit 6 of the word selects operand A (R34). -/
theorem selectedA_eq (s : State) : s.selectedA = if s.ports.cmd.getLsbD 6 = true then s.res else s.ports.a := by
  rw [State.selectedA, saField, srcOfBit_extractLsb']
  split_ifs <;> rfl

/-- Bit 7 of the word selects operand B (R34). -/
theorem selectedB_eq (s : State) : s.selectedB = if s.ports.cmd.getLsbD 7 = true then s.res else s.ports.b := by
  rw [State.selectedB, sbField, srcOfBit_extractLsb']
  split_ifs <;> rfl

theorem execWord_eq_exec {i : Instr} (h : decode s.ports.cmd = .ok i) : s.execWord = exec i s := by
  simp only [State.execWord, h]

/-- Settles O8: the edge accepts the word (`step_eq_accept`), whose outcome is that of the command it decodes to. -/
theorem stepRunsTheDecodedCommand : Obligations.StepRunsTheDecodedCommand := by
  intro s t i hp hr hv hd ht
  rw [← selectedA_eq, ← selectedB_eq]
  exact step_eq_accept hr hp hv ((execWord_eq_exec hd).trans ht)

/-- Settles O12: an edge in BUSY is `State.countDown`, in its two cases. -/
theorem busyCountsDownThenCompletes : Obligations.BusyCountsDownThenCompletes := by
  intro s hp hr
  refine ⟨fun hcnt => ?_, fun hcnt => ⟨s.complete.tick, ?_, rfl, rfl, rfl, rfl, rfl, rfl, rfl⟩⟩
  · rw [step_eq_busy hr hp, countDown_eq_count hcnt]
    rfl
  · rw [step_eq_busy hr hp, countDown_eq_complete hcnt.le]

/-- Settles O13: an edge in RESP consumes the response or holds it. -/
theorem responseIsHeldUntilConsumed : Obligations.ResponseIsHeldUntilConsumed := by
  intro s hp hr
  refine ⟨step_eq_consume hr hp, fun hy => ⟨s.tick, step_eq_hold hr hp hy, hp, beq_iff_eq.2 hp, rfl, rfl⟩, fun t ht => ?_⟩
  cases hy : s.ports.rspReady with
  | true =>
    obtain rfl := Host.Outcome.next.inj ((step_eq_consume hr hp hy).symm.trans ht)
    simp
  | false =>
    obtain rfl := Host.Outcome.next.inj ((step_eq_hold hr hp hy).symm.trans ht)
    simp [hp]

/-- Settles O16: of the edges without reset (`step_cases`), only a completion writes RES or STATUS. -/
theorem resAndStatusChangeOnlyAtCompletionOrReset : Obligations.ResAndStatusChangeOnlyAtCompletionOrReset := by
  intro s t hst hr hcomplete
  obtain ⟨t', ht', hcases⟩ := step_cases s
  obtain rfl : t' = t := Host.Outcome.next.inj (ht'.symm.trans hst)
  obtain ⟨hrst, -⟩ | ⟨-, -, -, u, -, rfl⟩ | ⟨-, -, -, rfl⟩ | ⟨-, hbusy, rfl⟩ | ⟨-, -, -, rfl⟩ | ⟨-, -, -, rfl⟩ := hcases
  · simp [hr] at hrst
  · exact ⟨rfl, rfl⟩
  · exact ⟨rfl, rfl⟩
  · rw [countDown_eq_count (not_le.1 fun hcnt => hcomplete ⟨hbusy, hcnt⟩)]
    exact ⟨rfl, rfl⟩
  · exact ⟨rfl, rfl⟩
  · exact ⟨rfl, rfl⟩

/-- The phases an edge leads to, from a state in which BUSY has a cycle left (R54). -/
theorem step_phase (hs : Inv s) (hst : step s = .next t) :
    (s.ports.rst = true ∧ t.phase = .idle) ∨ (s.ports.rst = false ∧ (t.phase = s.phase ∨
      (s.phase = .idle ∧ s.ports.cmdValid = true ∧ t.phase = .busy) ∨ (s.phase = .busy ∧ s.cnt = 1 ∧ t.phase = .resp) ∨
      (s.phase = .resp ∧ s.ports.rspReady = true ∧ t.phase = .idle))) := by
  obtain ⟨t', ht', hcases⟩ := step_cases s
  obtain rfl : t' = t := Host.Outcome.next.inj (ht'.symm.trans hst)
  obtain ⟨hr, rfl⟩ | ⟨hr, hi, hv, u, -, rfl⟩ | ⟨hr, -, -, rfl⟩ | ⟨hr, hb, rfl⟩ | ⟨hr, hh, hy, rfl⟩ | ⟨hr, -, -, rfl⟩ := hcases
  · exact .inl ⟨hr, rfl⟩
  · exact .inr ⟨hr, .inr (.inl ⟨hi, hv, rfl⟩)⟩
  · exact .inr ⟨hr, .inl rfl⟩
  · obtain ⟨hcnt, h⟩ | ⟨-, h⟩ := countDown_cases s
    · exact .inr ⟨hr, .inr (.inr (.inl ⟨hb, le_antisymm hcnt (hs.busy_count hb), by rw [h]; rfl⟩))⟩
    · exact .inr ⟨hr, .inl (by rw [h]; rfl)⟩
  · exact .inr ⟨hr, .inr (.inr (.inr ⟨hh, hy, rfl⟩))⟩
  · exact .inr ⟨hr, .inl rfl⟩

/-- An edge in BUSY counts or completes whatever the ports hold (R54). -/
theorem countDown_tick_congr_ports (s : State) (p q : Ports) (l : List Ports) :
    (State.countDown { s with host := p :: l }).tick = (State.countDown { s with host := q :: l }).tick := by
  obtain ⟨hcnt, h⟩ | ⟨hcnt, h⟩ := countDown_cases { s with host := q :: l }
  · rw [h, countDown_eq_complete (s := { s with host := p :: l }) hcnt]
    rfl
  · rw [h, countDown_eq_count (s := { s with host := p :: l }) hcnt]
    rfl

/-- Of the command's effects, acceptance latches the outcome only (R51). -/
theorem latch_congr (s : State) (h : u.outcomeOf = v.outcomeOf) : s.latch u = s.latch v := by
  simp only [State.latch, h]

/-- The inputs that a phase ignores make no difference to the step (R54): all but `rst` in BUSY, all but `rst` and `rsp_ready`
in RESP, and `rsp_ready` in IDLE. -/
theorem step_congr_ports {p q : Ports} {l : List Ports} (hrst : p.rst = q.rst)
    (hidle : s.phase = .idle → p = { q with rspReady := p.rspReady }) (hresp : s.phase = .resp → p.rspReady = q.rspReady) :
    step { s with host := p :: l } = step { s with host := q :: l } := by
  obtain ⟨t, ht, hcases⟩ := step_cases { s with host := q :: l }
  rw [ht]
  obtain ⟨hr, rfl⟩ | ⟨hr, hp, hv, u, hu, rfl⟩ | ⟨hr, hp, hv, rfl⟩ | ⟨hr, hp, rfl⟩ | ⟨hr, hp, hy, rfl⟩ | ⟨hr, hp, hy, rfl⟩ := hcases
  · exact step_eq_reset (s := { s with host := p :: l }) (hrst.trans hr)
  · obtain ⟨y, rfl⟩ : ∃ y, p = { q with rspReady := y } := ⟨p.rspReady, hidle hp⟩
    obtain ⟨v, u', hv', hu', hout⟩ := execWord_congr (s := { s with host := { q with rspReady := y } :: l })
      (t := { s with host := q :: l }) rfl rfl rfl rfl rfl
    obtain rfl : u' = u := Host.Outcome.next.inj (hu'.symm.trans hu)
    rw [step_eq_accept (s := { s with host := { q with rspReady := y } :: l }) hr hp hv hv', latch_congr _ hout]
    rfl
  · obtain ⟨y, rfl⟩ : ∃ y, p = { q with rspReady := y } := ⟨p.rspReady, hidle hp⟩
    exact step_eq_idle (s := { s with host := { q with rspReady := y } :: l }) hr hp hv
  · rw [step_eq_busy (s := { s with host := p :: l }) (hrst.trans hr) hp, countDown_tick_congr_ports]
  · exact step_eq_consume (s := { s with host := p :: l }) (hrst.trans hr) hp ((hresp hp).trans hy)
  · exact step_eq_hold (s := { s with host := p :: l }) (hrst.trans hr) hp ((hresp hp).trans hy)

/-- Settles O11: the phases by `step_phase`, the two waits by their equations, the ignored inputs by `step_congr_ports`. -/
theorem noOtherPhaseTransitions : Obligations.NoOtherPhaseTransitions := by
  refine ⟨fun s t => step_phase, fun s hr hwait => ⟨s.tick, ?_, rfl⟩, fun s p q l => step_congr_ports⟩
  obtain ⟨hp, hv⟩ | ⟨hp, hy⟩ := hwait
  · exact step_eq_idle hr hp hv
  · exact step_eq_hold hr hp hy

end Sys2Proof.Safety
end

section
/-! PROOFS. A command from its acceptance to its response (R51, R52, R276), by induction on the cycles in BUSY. -/

namespace Sys2Proof.Safety

open Sys2Proof.Machine

variable {s t : State}

/-- While cycles are left, BUSY only counts. -/
theorem runEdges_busy {k : Nat} (hp : s.phase = .busy) (hk : k < s.cnt) (hr : ∀ j < k, (portsAt s j).rst = false) :
    runEdges k s = .next { s.after k with cnt := s.cnt - k } := by
  refine runEdges_of_steps (f := fun j => { s.after j with cnt := s.cnt - j }) fun j hj => ?_
  rw [step_eq_busy (s := { s.after j with cnt := s.cnt - j }) (hr j hj) hp, countDown_eq_count (by simp only; omega)]
  exact congrArg (fun w : State => Host.Outcome.next { w with cnt := s.cnt - j - 1 }) (after_tick s j)

/-- As many edges as cycles are left complete the command. -/
theorem runEdges_complete (hp : s.phase = .busy) (hpos : 1 ≤ s.cnt) (hr : ∀ j < s.cnt, (portsAt s j).rst = false) :
    runEdges s.cnt s = .next (s.complete.after s.cnt) := by
  obtain ⟨k, hk⟩ : ∃ k, s.cnt = k + 1 := Nat.exists_eq_add_of_le' hpos
  rw [hk] at hr ⊢
  rw [runEdges_add k 1 (runEdges_busy hp (by omega) fun j hj => hr j (by omega))]
  have hlast : step { s.after k with cnt := s.cnt - k } = .next (s.complete.after k).tick := by
    rw [step_eq_busy (s := { s.after k with cnt := s.cnt - k }) (hr k k.lt_succ_self) hp, countDown_eq_complete (by simp only; omega)]
    rfl
  rw [runEdges_succ 0 hlast, after_tick]
  rfl

section
variable (hp : s.phase = .idle) (hr : s.ports.rst = false) (hv : s.ports.cmdValid = true) (ht : s.execWord = .next t)
include hp hr hv ht

/-- An accepted command is in BUSY for as many edges as its latency says. -/
theorem runEdges_accept_busy {k : Nat} (hk : k < s.latency) (hrst : ∀ j < k, (portsAt s (j + 1)).rst = false) :
    runEdges (k + 1) s = .next { (s.latch t).after (k + 1) with cnt := s.latency - k } := by
  rw [runEdges_succ k (step_eq_accept hr hp hv ht), runEdges_busy rfl hk fun j hj => ?_, tick_after]
  · rfl
  · rw [← ports_after, tick_after]
    exact hrst j hj

/-- An accepted command completes one edge after its latency. -/
theorem runEdges_accept_complete (hrst : ∀ j < s.latency, (portsAt s (j + 1)).rst = false) :
    runEdges (s.latency + 1) s = .next ((s.latch t).complete.after (s.latency + 1)) := by
  rw [runEdges_succ _ (step_eq_accept hr hp hv ht), ← tick_after]
  refine runEdges_complete (s := (s.latch t).tick) rfl (latency_bounds s).1 fun j hj => ?_
  rw [← ports_after, tick_after]
  exact hrst j hj

end

/-- Settles O28: BUSY by `runEdges_accept_busy`, the response by `runEdges_accept_complete`. -/
theorem handshakeDeliversTheOutcomeOfExec : Obligations.HandshakeDeliversTheOutcomeOfExec := by
  intro s t hp hr hv ht hrst
  refine ⟨latency_bounds s, fun k h1 hk => ?_, ?_⟩
  · obtain ⟨j, rfl⟩ := Nat.exists_eq_add_of_le' h1
    exact ⟨_, runEdges_accept_busy hp hr hv ht hk fun i hi => hrst (i + 1) (by omega) (by omega), rfl, rfl, rfl⟩
  · exact ⟨_, runEdges_accept_complete hp hr hv ht fun j hj => hrst (j + 1) (by omega) hj, rfl, rfl⟩

end Sys2Proof.Safety
end

section
/-! PROOFS. A turn of the host, and turns one after the other (R59, R277, R278). -/

namespace Sys2Proof.Safety

open Sys2Proof.Machine

variable {s t : State} {u : Turn} {l : List Ports} {d : List Nat}

/-- The edges of a tape's first part read that part. -/
theorem portsAt_mem {h : List Ports} {j : Nat} (hs : s.host = h ++ l) (hj : j < h.length) : portsAt s j ∈ h := by
  have hdrop : s.host.drop j = h[j] :: (h.drop (j + 1) ++ l) := by
    rw [hs, List.drop_append_of_le_length hj.le, List.drop_eq_getElem_cons hj, List.cons_append]
  rw [portsAt, hdrop]
  exact List.getElem_mem hj

/-- A host that presents nothing leaves FXP64 in IDLE (R54). -/
theorem runEdges_idle {h : List Ports} (hp : s.phase = .idle) (hs : s.host = h ++ l)
    (hq : ∀ p ∈ h, p.rst = false ∧ p.cmdValid = false) : runEdges h.length s = .next (s.after h.length) := by
  refine runEdges_of_steps (f := s.after) fun j hj => ?_
  obtain ⟨hr, hv⟩ := hq _ (portsAt_mem hs hj)
  rw [step_eq_idle (s := s.after j) hr hp hv, after_tick]

/-- A host that does not consume the response leaves FXP64 in RESP (R53). -/
theorem runEdges_hold {h : List Ports} (hp : s.phase = .resp) (hs : s.host = h ++ l)
    (hq : ∀ p ∈ h, p.rst = false ∧ p.rspReady = false) : runEdges h.length s = .next (s.after h.length) := by
  refine runEdges_of_steps (f := s.after) fun j hj => ?_
  obtain ⟨hr, hy⟩ := hq _ (portsAt_mem hs hj)
  rw [step_eq_hold (s := s.after j) hr hp hy, after_tick]

/-- The ports read the head of the tape. -/
theorem ports_of_host {p : Ports} (h : s.host = p :: l) : s.ports = p := by rw [State.ports, h]

/-- A turn's issue and its cycles of BUSY lead to the response of `Exec` on the state that accepts. -/
theorem Turn.Ok.runEdges_issue (hu : u.Ok) (hp : s.phase = .idle) (hs : s.host = u.issue :: (u.busy ++ l))
    (hd : s.draws = u.busy.length :: d) (ht : s.execWord = .next t) :
    runEdges (u.busy.length + 1) s = .next ((s.latch t).complete.after (u.busy.length + 1)) := by
  have hports := ports_of_host hs
  have hlat : s.latency = u.busy.length := latency_eq hd (List.length_pos_of_ne_nil hu.busy_long) hu.busy_bounded
  have hrun := runEdges_accept_complete hp (hports ▸ hu.issue_valid.1) (hports ▸ hu.issue_valid.2) ht
  rw [hlat] at hrun
  refine hrun fun j hj => hu.busy_quiet _ ?_
  rw [← ports_after, ← tick_after]
  exact portsAt_mem (s := s.tick) (congrArg List.tail hs) hj

/-- From the issue on, a turn leads to the response of `Exec` on the state that accepts, held for as long as the host waits. -/
theorem Turn.Ok.runEdges_issue_hold (hu : u.Ok) (hp : s.phase = .idle) (hs : s.host = u.issue :: (u.busy ++ (u.hold ++ l)))
    (hd : s.draws = u.busy.length :: d) (ht : s.execWord = .next t) :
    ∃ v, runEdges (u.busy.length + 1 + u.hold.length) s = .next v ∧ v.phase = .resp ∧ v.outcomeOf = t.outcomeOf ∧
      v.host = l ∧ v.draws = d := by
  have hheld : ((s.latch t).complete.after (u.busy.length + 1)).host = u.hold ++ l := by simp [hs]
  refine ⟨((s.latch t).complete.after (u.busy.length + 1)).after u.hold.length, ?_, rfl, rfl, ?_, congrArg List.tail hd⟩
  · rw [runEdges_add _ _ (hu.runEdges_issue hp hs hd ht)]
    exact runEdges_hold rfl hheld hu.hold_waits
  · rw [after_host, hheld, List.drop_left]

/-- A turn up to its response: RES, STATUS and the response are the outcome of `Exec` on the turn's command. -/
theorem Turn.Ok.runEdges_upToResponse (hu : u.Ok) (hp : s.phase = .idle) (hs : s.host = u.upToResponse ++ l)
    (hd : s.draws = u.busy.length :: d) :
    ∃ t v, s.execCommand u.command = .next t ∧ runEdges u.upToResponse.length s = .next v ∧ v.phase = .resp ∧
      v.outcomeOf = t.outcomeOf ∧ v.host = l ∧ v.draws = d := by
  rw [Turn.upToResponse, List.append_assoc, List.cons_append, List.append_assoc] at hs
  have hissue : (s.after u.idle.length).host = u.issue :: (u.busy ++ (u.hold ++ l)) := by
    rw [after_host, hs, List.drop_left]
  have hports := ports_of_host hissue
  obtain ⟨t, w, ht, hw, hout⟩ := execWord_congr (s := { s with host := u.command.ports :: s.host })
    (t := s.after u.idle.length) rfl rfl (by rw [hports]; rfl) (by rw [hports]; rfl) (by rw [hports]; rfl)
  obtain ⟨v, hv, hresp, hvout, hrest⟩ := hu.runEdges_issue_hold (s := s.after u.idle.length) hp hissue hd hw
  refine ⟨t, v, ht, ?_, hresp, hvout.trans hout.symm, hrest⟩
  have hlen : u.upToResponse.length = u.idle.length + (u.busy.length + 1 + u.hold.length) := by
    simp only [Turn.upToResponse, List.length_append, List.length_cons]
    omega
  rw [hlen, runEdges_add _ _ (runEdges_idle hp hs hu.idle_quiet), hv]

/-- A whole turn: FXP64 is in IDLE again, with the RES and STATUS of `Exec` on the turn's command. -/
theorem Turn.Ok.runEdges_tape (hu : u.Ok) (hp : s.phase = .idle) (hs : s.host = u.tape ++ l)
    (hd : s.draws = u.busy.length :: d) :
    ∃ t v, s.execCommand u.command = .next t ∧ runEdges u.tape.length s = .next v ∧ v.phase = .idle ∧ v.host = l ∧
      v.draws = d ∧ v.res = t.res ∧ v.lastErr = t.lastErr ∧ v.sticky = t.sticky := by
  rw [Turn.tape, List.append_assoc, List.cons_append, List.nil_append] at hs
  obtain ⟨t, v, ht, hv, hresp, hout, hhost, hdraws⟩ := hu.runEdges_upToResponse hp hs hd
  have hports := ports_of_host hhost
  have hstep : step v = .next v.consume.tick :=
    step_eq_consume (hports ▸ hu.consume_ready.1) hresp (hports ▸ hu.consume_ready.2)
  refine ⟨t, v.consume.tick, ht, ?_, rfl, by simp [hhost], hdraws, congrArg ExecOutcome.res hout,
    congrArg ExecOutcome.lastErr hout, congrArg ExecOutcome.sticky hout⟩
  rw [Turn.tape, List.length_append, runEdges_add _ _ hv]
  exact runEdges_succ 0 hstep

/-- Of the state, the fold of `Exec` depends on RES and STICKY only. -/
theorem execAll_congr {s s' : State} (hr : s.res = s'.res) (hk : s.sticky = s'.sticky) (cs : List Command) :
    execAll s cs = execAll s' cs := by
  induction cs generalizing s s' with
  | nil => rfl
  | cons c cs ih =>
    obtain ⟨u, v, hu, hv, hout⟩ := execWord_congr (s := { s with host := c.ports :: s.host })
      (t := { s' with host := c.ports :: s'.host }) hr hk rfl rfl rfl
    have htail := @ih { u with host := s.host } { v with host := s'.host } (congrArg ExecOutcome.res hout)
      (congrArg ExecOutcome.sticky hout)
    simp only [execAll, State.execCommand, hu, hv, hout, htail]

theorem execAll_cons {c : Command} (ht : s.execCommand c = .next t) (cs : List Command) :
    execAll s (c :: cs) = t.outcomeOf :: execAll t cs := by
  simp only [execAll, ht]
  exact congrArg (t.outcomeOf :: ·) (execAll_congr (by rfl) (by rfl) cs)

/-- Turns one after the other: FXP64 is in IDLE again, with the state from which the fold of `Exec` goes on. -/
theorem runEdges_turns {us : List Turn} (hus : ∀ u ∈ us, u.Ok) (hp : s.phase = .idle)
    (hs : s.host = (us.map Turn.tape).flatten ++ l) (hd : s.draws = us.map (fun u => u.busy.length) ++ d) :
    ∃ v, runEdges (us.map Turn.tape).flatten.length s = .next v ∧ v.phase = .idle ∧ v.host = l ∧ v.draws = d ∧
      ∀ cs, execAll s (us.map Turn.command ++ cs) = execAll s (us.map Turn.command) ++ execAll v cs := by
  induction us generalizing s with
  | nil => exact ⟨s, rfl, hp, hs, hd, fun _ => rfl⟩
  | cons u us ih =>
    rw [List.map_cons, List.flatten_cons, List.append_assoc] at hs
    obtain ⟨t, w, ht, hw, hwp, hwh, hwd, hres, -, hsticky⟩ := (hus u List.mem_cons_self).runEdges_tape hp hs hd
    obtain ⟨v, hv, hvp, hvh, hvd, hfold⟩ := ih (fun u' hu' => hus u' (List.mem_cons_of_mem u hu')) hwp hwh hwd
    refine ⟨v, ?_, hvp, hvh, hvd, fun cs => ?_⟩
    · rw [List.map_cons, List.flatten_cons, List.length_append, runEdges_add _ _ hw, hv]
    · rw [List.map_cons, List.cons_append, execAll_cons ht, execAll_cons ht, List.cons_append,
        execAll_congr hres.symm hsticky.symm, execAll_congr hres.symm hsticky.symm, hfold]

/-- Settles O29: the turns before the last by `runEdges_turns`, the last by `Turn.Ok.runEdges_upToResponse` and
`Turn.Ok.runEdges_tape`. -/
theorem runIsTheFoldOfExec : Obligations.RunIsTheFoldOfExec := by
  intro s us u l d hp hok hs hd
  rw [List.map_append, List.append_assoc] at hd
  obtain ⟨w, hw, hwp, hwh, hwd, hfold⟩ := runEdges_turns (fun u' hu' => hok u' (List.mem_append_left _ hu')) hp hs hd
  have hu : u.Ok := hok u (List.mem_append_right _ List.mem_cons_self)
  obtain ⟨t, v₂, ht, hv₂, hidle, hhost, -, hres, herr, hsticky⟩ := hu.runEdges_tape hwp hwh hwd
  rw [Turn.tape, List.append_assoc] at hwh
  obtain ⟨t', v₁, ht', hv₁, hresp, hout, -, -⟩ := hu.runEdges_upToResponse hwp hwh hwd
  obtain rfl : t' = t := Host.Outcome.next.inj (ht'.symm.trans ht)
  refine ⟨t'.outcomeOf, v₁, v₂, ?_, ?_, hresp, hout, ?_, hidle, hhost, hres, herr, hsticky⟩
  · rw [List.map_append, hfold, List.map_singleton, execAll_cons ht', execAll, List.getLast?_concat]
  · rw [runEdges_add _ _ hw, hv₁]
  · rw [runEdges_add _ _ hw, hv₂]

end Sys2Proof.Safety
end

section
/-! PROOFS. The decoder and the encoder are inverse to each other (R76, R81): a word decodes to a command exactly when it is
the word of that command, and the command is well-formed. -/

namespace Sys2Proof

variable {op : Nat} {sa sb : BitVec 1} {imm : BitVec 8} {i : Instr} {w : CmdWord}

@[simp] theorem bit_srcOfBit (x : BitVec 1) : (srcOfBit x).bit = x := by
  revert x; decide

/-- The row of a command is one of the opcode map (R76). -/
theorem row_mem_opcodeMap (i : Instr) : i.row ∈ opcodeMap := by
  cases i <;> exact of_decide_eq_true rfl

/-- Fields that decode are the fields of the command they decode to: in each arm, the form says what they are. -/
theorem fields_of_decodeOp_eq_ok (h : decodeOp op sa sb imm = .ok i) :
    op = i.row.op ∧ sa = i.saBit ∧ sb = i.sbBit ∧ imm = i.immByte ∧ i.wellFormed = true := by
  unfold decodeOp at h
  split at h <;> simp only [formNone_eq_ok, formA_eq_ok, formAB_eq_ok, formADec_eq_ok, formRom_eq_ok, reduceCtorEq] at h <;>
    casesm* _ ∧ _ <;> subst_vars <;>
    simp_all [Instr.row, Instr.saBit, Instr.sbBit, Instr.immByte, Instr.wellFormed]

/-- The fields of a well-formed command decode to it. -/
theorem decodeOp_fields (h : i.wellFormed = true) : decodeOp i.row.op i.saBit i.sbBit i.immByte = .ok i := by
  cases i with
  | ldc k => exact formRom_eq_ok.2 ⟨rfl, rfl, of_decide_eq_true h, rfl⟩
  | _ => simp [decodeOp, Instr.row, Instr.saBit, Instr.sbBit, Instr.immByte]

/-- Every opcode of the map has 6 bits (R71). -/
theorem op_lt {r : Row} (hr : r ∈ opcodeMap) : r.op < 2 ^ 6 := by
  have h : ∀ r ∈ opcodeMap, r.op < 2 ^ 6 := by decide
  exact h r hr

/-- A word decodes when its reserved bits are 0 and its other fields decode (R74). -/
theorem decode_eq_ok_iff_decodeOp : decode w = .ok i ↔
    rsvField w = 0#16 ∧ decodeOp (opField w).toNat (saField w) (sbField w) (immField w) = .ok i := by
  unfold decode
  split_ifs with hrsv <;> simp_all

/-- The decoder, as the inverse of the encoder (R81). -/
theorem decode_eq_ok_iff : decode w = .ok i ↔ w = encode i ∧ i.wellFormed = true := by
  rw [decode_eq_ok_iff_decodeOp]
  constructor
  · rintro ⟨hrsv, h⟩
    obtain ⟨hop, hsa, hsb, himm, hwf⟩ := fields_of_decodeOp_eq_ok h
    rw [← wordOf_fields w hrsv, encode, ← hop, ← hsa, ← hsb, ← himm, BitVec.ofNat_toNat, BitVec.setWidth_eq]
    exact ⟨rfl, hwf⟩
  · rintro ⟨rfl, hwf⟩
    simp only [encode, rsvField_wordOf, opField_wordOf, saField_wordOf, sbField_wordOf, immField_wordOf, BitVec.toNat_ofNat,
      Nat.mod_eq_of_lt (op_lt (row_mem_opcodeMap i)), decodeOp_fields hwf, and_self]

end Sys2Proof

namespace Sys2Proof.Safety

/-- Settles O1: one direction of `decode_eq_ok_iff`. -/
theorem decodeOfEncodeIsTheCommand : Obligations.DecodeOfEncodeIsTheCommand :=
  fun _ hwf => decode_eq_ok_iff.2 ⟨rfl, hwf⟩

/-- Settles O2: the other direction of `decode_eq_ok_iff`. -/
theorem encodeOfDecodeIsTheWord : Obligations.EncodeOfDecodeIsTheWord := by
  intro w i h
  obtain ⟨hw, hwf⟩ := decode_eq_ok_iff.1 h
  exact ⟨hw.symm, hwf⟩

end Sys2Proof.Safety
end

section
/-! PROOFS. The legal words (R77, R78), each with its one row of the opcode map, and IllegalCommand for every other word. -/

namespace Sys2Proof

variable {sa sb : BitVec 1} {imm : BitVec 8} {i : Instr} {w : CmdWord} {r q : Row}

/-- The fields a row admits (R77): SA, SB and IMM set only where the row reads them, and LDC's index at most 4. -/
def Row.Admits (r : Row) (sa sb : BitVec 1) (imm : BitVec 8) : Prop :=
  (sa = 0#1 ∨ r.operandA ≠ none) ∧ (sb = 0#1 ∨ r.operandB ≠ none) ∧ (imm = 0#8 ∨ r.imm ≠ .mustBeZero) ∧
  (r.imm = .romIndex → imm.toNat ≤ 4)

/-- With the opcode of a row, exactly the fields that the row admits decode. -/
theorem decodeOp_row_isOk_iff : (∃ j, decodeOp i.row.op sa sb imm = .ok j) ↔ i.row.Admits sa sb imm := by
  cases i <;> simp [decodeOp, Instr.row, Row.Admits]

/-- `rowOf` finds the row of the opcode map with the opcode, and there is only one (R76). -/
theorem rowOf_eq_some_iff {op : BitVec 6} : rowOf op = some r ↔ r ∈ opcodeMap ∧ r.op = op.toNat := by
  have hmap : ∀ r ∈ opcodeMap, rowOf (BitVec.ofNat 6 r.op) = some r := by decide
  constructor
  · intro h
    exact ⟨List.mem_of_find?_eq_some h, by simpa using List.find?_some h⟩
  · rintro ⟨hr, hop⟩
    simpa [hop] using hmap r hr

/-- R77 in terms of the opcode map: the reserved bits are 0, and some row has the opcode and admits the other fields. -/
theorem legal_iff : legal w = true ↔ rsvField w = 0#16 ∧
    ∃ r, rowOf (opField w) = some r ∧ r.Admits (saField w) (sbField w) (immField w) := by
  unfold legal
  cases rowOf (opField w) with
  | none => simp
  | some r => simp [Row.Admits, Option.isSome_iff_ne_none, and_assoc, imp_iff_not_or]

/-- The decoder accepts exactly the legal words (R77). -/
theorem legal_iff_decodes : legal w = true ↔ ∃ i, decode w = .ok i := by
  rw [legal_iff]
  simp only [decode_eq_ok_iff_decodeOp, exists_and_left]
  refine and_congr_right fun _ => ⟨?_, ?_⟩
  · rintro ⟨r, hrow, hadmits⟩
    obtain ⟨hr, hop⟩ := rowOf_eq_some_iff.1 hrow
    obtain ⟨i, -, rfl⟩ := List.mem_map.1 hr
    exact hop ▸ decodeOp_row_isOk_iff.2 hadmits
  · rintro ⟨i, hi⟩
    obtain ⟨hop, -⟩ := fields_of_decodeOp_eq_ok hi
    exact ⟨i.row, rowOf_eq_some_iff.2 ⟨row_mem_opcodeMap i, hop.symm⟩, decodeOp_row_isOk_iff.1 ⟨i, hop ▸ hi⟩⟩

/-- A word that is not legal is no command. -/
theorem decode_eq_error_of_not_legal (h : legal w = false) : ∃ e, decode w = .error e := by
  cases hd : decode w with
  | error e => exact ⟨e, rfl⟩
  | ok i => rw [legal_iff_decodes.2 ⟨i, hd⟩] at h; cases h

/-- The word of a command carries the fixed bits of its row, one lemma of `RowBits` per command. -/
theorem encode_and_mask : ∀ i : Instr, encode i &&& i.row.mask = i.row.matchBits
  | .nop => Laws.RowBits.nop
  | .fromint sa => Laws.RowBits.fromint sa
  | .toint sa => Laws.RowBits.toint sa
  | .fromuint sa => Laws.RowBits.fromuint sa
  | .touint sa => Laws.RowBits.touint sa
  | .from128 sa => Laws.RowBits.from128 sa
  | .to128 sa => Laws.RowBits.to128 sa
  | .fromdec sa d => Laws.RowBits.fromdec sa d
  | .todec sa d => Laws.RowBits.todec sa d
  | .add sa sb => Laws.RowBits.add sa sb
  | .sub sa sb => Laws.RowBits.sub sa sb
  | .neg sa => Laws.RowBits.neg sa
  | .abs sa => Laws.RowBits.abs sa
  | .avg sa sb => Laws.RowBits.avg sa sb
  | .mul sa sb => Laws.RowBits.mul sa sb
  | .muli sa sb => Laws.RowBits.muli sa sb
  | .mulu sa sb => Laws.RowBits.mulu sa sb
  | .div sa sb => Laws.RowBits.div sa sb
  | .divi sa sb => Laws.RowBits.divi sa sb
  | .divu sa sb => Laws.RowBits.divu sa sb
  | .inv sa => Laws.RowBits.inv sa
  | .gavg sa sb => Laws.RowBits.gavg sa sb
  | .pow sa sb => Laws.RowBits.pow sa sb
  | .sqrt sa => Laws.RowBits.sqrt sa
  | .log2 sa => Laws.RowBits.log2 sa
  | .ln sa => Laws.RowBits.ln sa
  | .exp2 sa => Laws.RowBits.exp2 sa
  | .exp sa => Laws.RowBits.exp sa
  | .mov sa => Laws.RowBits.mov sa
  | .ldc k => Laws.RowBits.ldc k
  | .clrst => Laws.RowBits.clrst

/-- Every row fixes the six bits of OP, and no two rows fix them alike: a word matches at most one row (R76). -/
theorem row_eq_of_matches (hr : r ∈ opcodeMap) (hq : q ∈ opcodeMap) (hwr : w &&& r.mask = r.matchBits)
    (hwq : w &&& q.mask = q.matchBits) : q = r := by
  have hmask : ∀ r ∈ opcodeMap, r.mask &&& 0x3F#32 = 0x3F#32 := by decide
  have hinj : ∀ q ∈ opcodeMap, ∀ r ∈ opcodeMap, q.matchBits &&& 0x3F#32 = r.matchBits &&& 0x3F#32 → q = r := by
    decide +kernel
  refine hinj q hq r hr ?_
  rw [← hwr, ← hwq, BitVec.and_assoc, BitVec.and_assoc, hmask q hq, hmask r hr]

/-- A word that decodes matches the row of its command. -/
theorem matches_of_decode_eq_ok (h : decode w = .ok i) : i.row ∈ opcodeMap ∧ w &&& i.row.mask = i.row.matchBits := by
  obtain ⟨rfl, -⟩ := decode_eq_ok_iff.1 h
  exact ⟨row_mem_opcodeMap i, encode_and_mask i⟩

/-! The fields read off the word as a number (R70). -/

theorem opField_toNat (w : CmdWord) : (opField w).toNat = w.toNat % 2 ^ 6 := by simp [opField]

/-- A field is 0 when its digits of the word are. -/
theorem extractLsb'_eq_zero_iff {k n : Nat} (w : CmdWord) : w.extractLsb' k n = 0#n ↔ w.toNat / 2 ^ k % 2 ^ n = 0 := by
  rw [← BitVec.toNat_inj, BitVec.extractLsb'_toNat, Nat.shiftRight_eq_div_pow, BitVec.toNat_ofNat, Nat.zero_mod]

theorem saField_eq_zero_iff (w : CmdWord) : saField w = 0#1 ↔ w.toNat / 2 ^ 6 % 2 = 0 := extractLsb'_eq_zero_iff w

theorem sbField_eq_zero_iff (w : CmdWord) : sbField w = 0#1 ↔ w.toNat / 2 ^ 7 % 2 = 0 := extractLsb'_eq_zero_iff w

theorem immField_eq_zero_iff (w : CmdWord) : immField w = 0#8 ↔ w.toNat / 2 ^ 8 % 2 ^ 8 = 0 := extractLsb'_eq_zero_iff w

theorem rsvField_eq_zero_iff (w : CmdWord) : rsvField w = 0#16 ↔ w.toNat / 2 ^ 16 = 0 := by
  have hlt : w.toNat / 2 ^ 16 < 2 ^ 16 := Nat.div_lt_of_lt_mul w.isLt
  rw [rsvField, extractLsb'_eq_zero_iff, Nat.mod_eq_of_lt hlt]

/-- A reserved opcode has no row (R78). -/
theorem op_not_mem_reservedOps (hr : r ∈ opcodeMap) : r.op ∉ Safety.reservedOps := by
  have h : ∀ r ∈ opcodeMap, r.op ∉ Safety.reservedOps := by decide
  exact h r hr

/-- A legal word has none of R78's reserved encodings. -/
theorem legal_fields (h : legal w = true) : w.toNat % 2 ^ 6 ∉ Safety.reservedOps ∧ w.toNat / 2 ^ 16 = 0 ∧
    ∀ r ∈ opcodeMap, r.op = w.toNat % 2 ^ 6 → r.Admits (saField w) (sbField w) (immField w) := by
  obtain ⟨hrsv, r, hrow, hadmits⟩ := legal_iff.1 h
  obtain ⟨hr, hop⟩ := rowOf_eq_some_iff.1 hrow
  rw [← opField_toNat, ← hop]
  refine ⟨op_not_mem_reservedOps hr, (rsvField_eq_zero_iff w).1 hrsv, fun q hq hqop => ?_⟩
  obtain rfl := Option.some.inj (hrow.symm.trans (rowOf_eq_some_iff.2 ⟨hq, hqop.trans hop⟩))
  exact hadmits

end Sys2Proof

namespace Sys2Proof.Safety

open Sys2Proof.Machine

/-- `Exec` of a word that is no command is IllegalCommand (R39, R245). -/
theorem execCommand_of_not_legal {c : Command} (h : legal c.w = false) (s : State) :
    s.execCommand c = .next (failed { s with host := c.ports :: s.host } 5) := by
  obtain ⟨e, he⟩ := decode_eq_error_of_not_legal h
  have hcmd : decode (State.ports { s with host := c.ports :: s.host }).cmd = .error e := he
  rw [State.execCommand, State.execWord, hcmd]
  rfl

/-- Settles O3: legality by `legal_iff_decodes`, the row by `matches_of_decode_eq_ok` and `row_eq_of_matches`, and
IllegalCommand by `execCommand_of_not_legal`. -/
theorem legalWordsDecodeOthersAreIllegal : Obligations.LegalWordsDecodeOthersAreIllegal := by
  refine ⟨fun w => legal_iff_decodes, fun w hw => ?_, fun w i => matches_of_decode_eq_ok,
    fun s c hc => execCommand_of_not_legal hc s⟩
  obtain ⟨i, hi⟩ := legal_iff_decodes.1 hw
  obtain ⟨hmem, hbits⟩ := matches_of_decode_eq_ok hi
  exact ⟨i.row, ⟨hmem, hbits⟩, fun q ⟨hq, hwq⟩ => row_eq_of_matches hmem hq hbits hwq⟩

/-- Settles O5: `legal_fields` excludes each of the reserved encodings. -/
theorem reservedEncodingsAreIllegal : Obligations.ReservedEncodingsAreIllegal := by
  refine ⟨by decide, by decide, fun w hw => ?_⟩
  have hillegal : legal w = false := by
    rw [Bool.eq_false_iff]
    intro hlegal
    obtain ⟨hop, hrsv, hrows⟩ := legal_fields hlegal
    obtain h | h | ⟨r, hr, hrop, h⟩ := hw
    · exact hop h
    · exact h hrsv
    · obtain ⟨hsa, hsb, himm, -⟩ := hrows r hr hrop
      rw [saField_eq_zero_iff] at hsa
      rw [sbField_eq_zero_iff] at hsb
      rw [immField_eq_zero_iff] at himm
      obtain ⟨hnone, hset⟩ | ⟨hnone, hset⟩ | ⟨hzero, hset⟩ := h
      · exact hsa.elim (by omega) (· hnone)
      · exact hsb.elim (by omega) (· hnone)
      · exact himm.elim hset (· hzero)
  exact ⟨decode_eq_error_of_not_legal hillegal, fun s a b => execCommand_of_not_legal (c := ⟨w, a, b⟩) hillegal s⟩

end Sys2Proof.Safety
end

section
/-! PROOFS. The assembly form (R82) and the pseudo-instructions (R83). -/

namespace Sys2Proof.Machine

variable {r : Row} {l : AsmLine}

/-- The mnemonics of the pseudo-instructions (R83). -/
def pseudoMnemonics : List String := ["FROMWEI", "TOWEI", "LDONE", "LDMIN", "LDMAX", "LDE", "LDPI"]

/-- A mnemonic of the map is in capitals, is none of a pseudo-instruction, and names one row (R76, R82, R83). -/
theorem row_mnemonic (hr : r ∈ opcodeMap) : r.mnemonic.toUpper = r.mnemonic ∧ r.mnemonic ∉ pseudoMnemonics ∧
    opcodeMap.find? (fun q => q.mnemonic == r.mnemonic) = some r := by
  have h : ∀ r ∈ opcodeMap, r.mnemonic.toUpper = r.mnemonic ∧ r.mnemonic ∉ pseudoMnemonics ∧
      opcodeMap.find? (fun q => q.mnemonic == r.mnemonic) = some r := by decide +kernel
  exact h r hr

/-- A line with a row's mnemonic and exactly the operands that the row reads is the word of its fields (R82). -/
theorem assemble_of_row (hr : r ∈ opcodeMap) (hm : l.mnemonic = r.mnemonic) (hA : l.srcA.isSome = r.operandA.isSome)
    (hB : l.srcB.isSome = r.operandB.isSome) (himm : l.imm.isSome ↔ r.imm ≠ .mustBeZero) :
    assemble l = some (wordOf (BitVec.ofNat 6 r.op) ((l.srcA.map Src.bit).getD 0#1) ((l.srcB.map Src.bit).getD 0#1)
      (l.imm.getD 0#8)) := by
  obtain ⟨hupper, hpseudo, hfind⟩ := row_mnemonic hr
  unfold assemble assembleUpper
  rw [hm, hupper]
  split
  case h_8 => simp only [hfind, hA, hB, himm, and_self, if_true]
  all_goals exact absurd (by simp_all [pseudoMnemonics]) hpseudo

/-- The row of a well-formed command admits the command's fields (R77). -/
theorem row_admits {i : Instr} (h : i.wellFormed = true) : i.row.Admits i.saBit i.sbBit i.immByte :=
  decodeOp_row_isOk_iff.1 ⟨i, decodeOp_fields h⟩

/-- A source bit is read off the source that is written only where the row has the operand; elsewhere it is 0 (R72). -/
theorem bit_of_written_source {ty : Option ValueType} {x : BitVec 1} (h : x = 0#1 ∨ ty ≠ none) :
    ((ty.map (fun _ => srcOfBit x)).map Src.bit).getD 0#1 = x := by
  cases ty with
  | none => exact (h.resolve_right (not_not.2 rfl)).symm
  | some ty => exact bit_srcOfBit x

/-- IMM is written exactly where the row has an immediate; elsewhere it is 0 (R73). -/
theorem imm_of_written_byte {u : ImmUse} {x : BitVec 8} (h : x = 0#8 ∨ u ≠ .mustBeZero) :
    (if u = .mustBeZero then none else some x).getD 0#8 = x := by
  split_ifs with hu
  · exact (h.resolve_right (not_not.2 hu)).symm
  · rfl

end Sys2Proof.Machine

namespace Sys2Proof.Safety

open Sys2Proof.Machine

/-- Settles O6: the line has the operands of the command's row (`assemble_of_row`), and from them the command's fields. -/
theorem assemblyFormDeterminesTheWord : Obligations.AssemblyFormDeterminesTheWord := by
  intro i hwf
  obtain ⟨hsa, hsb, himm, -⟩ := row_admits hwf
  rw [assemble_of_row (row_mem_opcodeMap i) rfl (by simp [asmOf]) (by simp [asmOf]) (by simp [asmOf])]
  simp only [asmOf, bit_of_written_source hsa, bit_of_written_source hsb, imm_of_written_byte himm, encode]

/-- Settles O4: the table of R84, computed. -/
theorem workedEncodingsDecode : Obligations.WorkedEncodingsDecode := by
  unfold Obligations.WorkedEncodingsDecode
  decide +kernel

/-- Settles O7: the table of R83, computed. -/
theorem pseudoInstructionsAreAliases : Obligations.PseudoInstructionsAreAliases := by
  unfold Obligations.PseudoInstructionsAreAliases
  decide +kernel

end Sys2Proof.Safety
end

section
/-! PROOFS. The integers that a rule can give (R100 to R109, R130 to R190): those of the result type of its row (R76). -/

namespace Sys2Proof.Safety

open Sys2Proof.Machine

variable {x y n v : Int} {d : Nat}

/-- An operand denotes an integer of its type (R33, R75). -/
theorem inType_readAs (ty : ValueType) (w : Bus) : InType ty (readAs ty w) := by
  cases ty with
  | fixed | int128 => exact readAs_fixed w ▸ fits_signed128 w
  | int64 =>
    have hlow := (w.extractLsb' 0 64).le_toInt
    have hhigh := (w.extractLsb' 0 64).toInt_lt
    simp only [InType, readAs]
    omega
  | int256 => exact readAs_int256 w ▸ signed256_bounds w
  | uint64 =>
    have h := (w.extractLsb' 0 64).isLt
    simp only [InType, readAs]
    omega
  | uint256 =>
    have h := w.isLt
    simp only [InType, readAs]
    omega

/-! ### Truncation -/

/-- Truncation toward zero stays between the bounds of the quotient. -/
theorem tdiv_bounds {a lo hi : Int} (hlo : lo * 2 ^ 64 ≤ a) (hhi : a ≤ hi * 2 ^ 64) :
    lo ≤ tdiv a (2 ^ 64) ∧ tdiv a (2 ^ 64) ≤ hi := by
  rw [tdiv, Int.tdiv_eq_ediv, show Int.sign (2 ^ 64) = 1 from rfl]
  split_ifs <;> omega

/-- What a range check lets through is a 64.64 value (R12). -/
theorem fits_of_narrow_eq_ok (h : narrow x = .ok v) : Fits v := by
  obtain ⟨hin, hx⟩ | ⟨-, hx⟩ := narrow_eq x <;> cases hx.symm.trans h
  exact (inRange_iff_fits _).1 hin

/-! ### Conversions -/

theorem fits_of_fromIntRule (h : fromIntRule x = .ok v) : Fits v := by
  unfold fromIntRule shl at h
  split_ifs at h
  cases h
  unfold Fits
  omega

theorem int64_of_toIntRule (hx : Fits x) (h : toIntRule x = .ok v) : InType .int64 v := by
  rw [toIntRule, sar_eq_ediv] at h
  cases h
  simp only [Fits, InType] at *
  omega

theorem fits_of_fromUintRule (hx : 0 ≤ x) (h : fromUintRule x = .ok v) : Fits v := by
  unfold fromUintRule shl at h
  split_ifs at h
  cases h
  unfold Fits
  omega

theorem uint64_of_toUintRule (hx : Fits x) (h : toUintRule x = .ok v) : InType .uint64 v := by
  rw [toUintRule, sar_eq_ediv] at h
  split_ifs at h
  cases h
  simp only [Fits, InType] at *
  omega

theorem fits_of_from128Rule (h : from128Rule x = .ok v) : Fits v := by
  unfold from128Rule at h
  split_ifs at h with hin
  cases h
  exact (inRange_iff_fits _).1 hin

theorem int256_of_to128Rule (hx : Fits x) (h : to128Rule x = .ok v) : InType .int256 v := by
  unfold to128Rule shl at h
  cases h
  simp only [Fits, InType] at *
  omega

/-- A power of ten is positive (R106). -/
theorem pow10_pos {p : Int} (h : pow10 d = .ok p) : 0 < p := by
  unfold pow10 at h
  split_ifs at h
  cases h
  positivity

theorem fits_of_fromDecRule (hx : 0 ≤ x) (h : fromDecRule x d = .ok v) : Fits v := by
  unfold fromDecRule at h
  split at h
  case h_1 => cases h
  case h_2 p hp =>
    have hpos := pow10_pos hp
    have hnum : 0 ≤ shl x 64 := by unfold shl; positivity
    have hquot : 0 ≤ fdiv (shl x 64) p := Int.fdiv_nonneg hnum hpos.le
    split_ifs at h
    cases h
    unfold Fits fxMax at *
    omega

theorem uint256_of_toDecRule (h : toDecRule x d = .ok v) : InType .uint256 v := by
  unfold toDecRule at h
  split_ifs at h with hneg
  split at h
  case h_1 => cases h
  case h_2 p hp =>
    have hprod : 0 ≤ x * p := Int.mul_nonneg (not_lt.1 hneg) (pow10_pos hp).le
    rw [sar_eq_ediv] at h
    split_ifs at h
    cases h
    unfold InType
    omega

/-! ### Linear arithmetic -/

theorem fits_of_addRule (h : addRule x y = .ok v) : Fits v := fits_of_narrow_eq_ok h

theorem fits_of_subRule (h : subRule x y = .ok v) : Fits v := fits_of_narrow_eq_ok h

theorem fits_of_negRule (hx : Fits x) (h : negRule x = .ok v) : Fits v := by
  unfold negRule at h
  split_ifs at h
  cases h
  unfold Fits fxMin at *
  omega

theorem fits_of_absRule (hx : Fits x) (h : absRule x = .ok v) : Fits v := by
  unfold absRule at h
  unfold Fits fxMin at *
  split_ifs at h <;> cases h <;> omega

theorem fits_of_avgRule (hx : Fits x) (hy : Fits y) (h : avgRule x y = .ok v) : Fits v := by
  rw [avgRule, sar_eq_ediv, sar_eq_ediv] at h
  cases h
  unfold Fits bothOdd at *
  split_ifs <;> omega

/-! ### Multiplicative arithmetic -/

theorem int256_of_muliRule (h : muliRule x n = .ok v) : InType .int256 v := by
  unfold muliRule at h
  split_ifs at h with hout
  cases h
  have := tdiv_bounds (a := x * n) (lo := -2 ^ 191) (hi := 2 ^ 191) (by omega) (by omega)
  unfold InType
  omega

theorem uint256_of_muluRule (hn : 0 ≤ n) (h : muluRule x n = .ok v) : InType .uint256 v := by
  unfold muluRule at h
  split_ifs at h with hneg hbig
  have hprod : 0 ≤ x * n := Int.mul_nonneg (not_lt.1 hneg) hn
  rw [sar_eq_ediv] at h
  cases h
  unfold InType
  omega

theorem fits_of_divRule (h : divRule x y = .ok v) : Fits v := by
  unfold divRule at h
  split_ifs at h
  exact fits_of_narrow_eq_ok h

theorem fits_of_divuRule (hx : 0 ≤ x) (hy : 0 ≤ y) (h : divuRule x y = .ok v) : Fits v := by
  unfold divuRule at h
  have hnum : 0 ≤ shl x 64 := by unfold shl; positivity
  have hquot : 0 ≤ fdiv (shl x 64) y := Int.fdiv_nonneg hnum hy
  split_ifs at h
  cases h
  unfold Fits fxMax at *
  omega

theorem fits_of_invRule (h : invRule x = .ok v) : Fits v := by
  unfold invRule at h
  split_ifs at h
  exact fits_of_narrow_eq_ok h

/-! ### Roots and powers -/

theorem fits_of_gavgRule (h : gavgRule x y = .ok v) : Fits v := by
  unfold gavgRule at h
  split_ifs at h
  exact fits_of_narrow_eq_ok h

/-- The accumulator of POW is a 64.64 value from start to end: every product is checked (R181). -/
theorem fits_of_powLoop {k e : Nat} {acc b : Int} (hacc : Fits acc) (h : powLoop k acc b e = .ok v) : Fits v := by
  induction k generalizing acc b e with
  | zero => cases h; exact hacc
  | succ k ih =>
    by_cases he : e = 0
    · simp only [powLoop, he, if_true] at h
      cases h; exact hacc
    · simp only [powLoop, he, if_false] at h
      cases hmul : (if e % 2 = 1 then mul64 acc b else .ok acc) with
      | error err => simp only [hmul, reduceCtorEq] at h
      | ok acc' =>
        have hacc' : Fits acc' := by
          split_ifs at hmul
          · exact fits_of_narrow_eq_ok hmul
          · cases hmul; exact hacc
        simp only [hmul] at h
        split_ifs at h
        · cases h; exact hacc'
        · cases hsq : mul64 b b with
          | error err => simp only [hsq, reduceCtorEq] at h
          | ok b' => exact ih hacc' (by simpa only [hsq] using h)

theorem fits_of_powRule (h : powRule x n = .ok v) : Fits v :=
  fits_of_powLoop (by unfold Fits fxOne; omega) h

/-- The root of a 64.64 raw value scaled by `2^64` is below `2^96` (R182). -/
theorem fits_of_sqrtRule (hx : Fits x) (h : sqrtRule x = .ok v) : Fits v := by
  unfold sqrtRule shl at h
  split_ifs at h
  cases h
  obtain ⟨hroot, -⟩ := isqrt_spec (x * 2 ^ 64).toNat
  generalize isqrt (x * 2 ^ 64).toNat = r at *
  have hr : r < 2 ^ 96 := by
    by_contra! hge
    have := Nat.mul_le_mul hge hge
    unfold Fits at hx
    omega
  unfold Fits
  omega

/-! ### Logarithms and exponentials -/

/-- R183: from a mantissa below `2^128`, each iteration emits one bit and leaves the mantissa below `2^128`. -/
theorem log2Loop_bounds {k m : Nat} {r : Int} (hm : m < 2 ^ 128) : r ≤ log2Loop k m r ∧ log2Loop k m r < r + 2 ^ k := by
  induction k generalizing m r with
  | zero => simp [log2Loop]
  | succ k ih =>
    have hsq : m * m < 2 ^ 128 * 2 ^ 128 := Nat.mul_lt_mul'' hm hm
    have hbit : (m * m) >>> 255 = 0 ∨ (m * m) >>> 255 = 1 := by
      rw [Nat.shiftRight_eq_div_pow]
      omega
    have hpow : (2 : Int) ^ (k + 1) = 2 ^ k + 2 ^ k := by ring
    have hpos : (0 : Int) < 2 ^ k := by positivity
    unfold log2Loop
    obtain hb | hb := hbit
    · have hm' : (m * m) >>> 127 < 2 ^ 128 := by
        rw [Nat.shiftRight_eq_div_pow] at hb ⊢
        omega
      obtain ⟨hlo, hhi⟩ := ih (r := r) hm'
      simp only [hb, Nat.zero_shiftLeft, Nat.cast_zero, add_zero]
      omega
    · have hm' : (m * m) >>> 128 < 2 ^ 128 := by
        rw [Nat.shiftRight_eq_div_pow]
        omega
      obtain ⟨hlo, hhi⟩ := ih (r := r + 2 ^ k) hm'
      simp only [hb, Nat.one_shiftLeft, Nat.cast_pow, Nat.cast_ofNat, Nat.reduceAdd]
      omega

/-- The logarithm of a positive 64.64 value is between -64 and 63 (R183). -/
theorem log2core_bounds {x : Nat} (hpos : 0 < x) (hx : x < 2 ^ 127) : -2 ^ 70 ≤ log2core x ∧ log2core x < 2 ^ 70 := by
  obtain ⟨hlow, hhigh⟩ := bitlen_spec hpos
  have hmsb : bitlen x - 1 < 127 := (Nat.pow_lt_pow_iff_right (by decide)).1 (hlow.trans_lt hx)
  have hm : x <<< (127 - (bitlen x - 1)) < 2 ^ 128 := by
    rw [Nat.shiftLeft_eq]
    calc x * 2 ^ (127 - (bitlen x - 1)) < 2 ^ bitlen x * 2 ^ (127 - (bitlen x - 1)) :=
          Nat.mul_lt_mul_of_pos_right hhigh (by positivity)
      _ = 2 ^ 128 := by rw [← pow_add]; congr 1; have : 0 < bitlen x := Nat.succ_pos _; omega
  obtain ⟨hlo, hhi⟩ := log2Loop_bounds (k := 64) (r := shl (((bitlen x - 1 : Nat) : Int) - 64) 64) hm
  simp only [log2core, shl] at hlo hhi ⊢
  omega

theorem fits_of_log2Rule (hx : Fits x) (h : log2Rule x = .ok v) : Fits v := by
  unfold log2Rule at h
  split_ifs at h with hneg
  cases h
  unfold Fits at *
  have := log2core_bounds (x := x.toNat) (by omega) (by omega)
  omega

theorem fits_of_lnRule (hx : Fits x) (h : lnRule x = .ok v) : Fits v := by
  unfold lnRule at h
  split_ifs at h with hneg
  cases h
  unfold Fits at hx
  have := log2core_bounds (x := x.toNat) (by omega) (by omega)
  have := tdiv_bounds (a := log2core x.toNat * fxLn2) (lo := -2 ^ 70) (hi := 2 ^ 70) (by unfold fxLn2; omega)
    (by unfold fxLn2; omega)
  unfold Fits
  omega

theorem fits_of_exp2core {T : Nat → Nat} (h : exp2core T x = .ok v) : Fits v := by
  unfold exp2core at h
  split_ifs at h
  · cases h
    unfold Fits
    decide
  · exact fits_of_narrow_eq_ok h

theorem fits_of_expRule {T : Nat → Nat} (h : expRule T x = .ok v) : Fits v := by
  unfold expRule at h
  split_ifs at h
  · cases h
    unfold Fits
    decide
  · exact fits_of_exp2core h

/-! ### All commands -/

/-- The constants that LDC reads are 64.64 values (R42). -/
theorem fits_of_rom {k : BitVec 8} (h : rom k = some v) : Fits v := by
  unfold rom at h
  split at h <;> cases h <;> unfold Fits <;> decide

/-- A rule on integers of its operands' types gives an integer of its row's result type (R76). -/
theorem ruleOf_inType {i : Instr} {ty : ValueType} (hx : ∀ a, i.row.operandA = some a → InType a x)
    (hy : ∀ b, i.row.operandB = some b → InType b y) (hr : ruleOf i x y = some (.ok v)) (hty : i.row.result = some ty) :
    InType ty v := by
  cases i <;> cases hty <;> have h := Option.some.inj hr
  case fromint => exact fits_of_fromIntRule h
  case toint => exact int64_of_toIntRule (hx _ rfl) h
  case fromuint => exact fits_of_fromUintRule (hx _ rfl).1 h
  case touint => exact uint64_of_toUintRule (hx _ rfl) h
  case from128 => exact fits_of_from128Rule h
  case to128 => exact int256_of_to128Rule (hx _ rfl) h
  case fromdec => exact fits_of_fromDecRule (hx _ rfl).1 h
  case todec => exact uint256_of_toDecRule h
  case add => exact fits_of_addRule h
  case sub => exact fits_of_subRule h
  case neg => exact fits_of_negRule (hx _ rfl) h
  case abs => exact fits_of_absRule (hx _ rfl) h
  case avg => exact fits_of_avgRule (hx _ rfl) (hy _ rfl) h
  case mul => exact fits_of_narrow_eq_ok h
  case muli => exact int256_of_muliRule h
  case mulu => exact uint256_of_muluRule (hy _ rfl).1 h
  case div => exact fits_of_divRule h
  case divi => exact fits_of_divRule h
  case divu => exact fits_of_divuRule (hx _ rfl).1 (hy _ rfl).1 h
  case inv => exact fits_of_invRule h
  case gavg => exact fits_of_gavgRule h
  case pow => exact fits_of_powRule h
  case sqrt => exact fits_of_sqrtRule (hx _ rfl) h
  case log2 => exact fits_of_log2Rule (hx _ rfl) h
  case ln => exact fits_of_lnRule (hx _ rfl) h
  case exp2 => exact fits_of_exp2core h
  case exp => exact fits_of_expRule h
  case mov => cases h; exact hx _ rfl
  case ldc k =>
    cases hk : rom k with
    | none => rw [hk] at h; cases h
    | some c => rw [hk] at h; cases h; exact fits_of_rom hk

/-- A reading of an operand that the row has is an integer of the operand's type. -/
theorem inType_reading {o : Option ValueType} {ty : ValueType} (h : o = some ty) (w : Bus) : InType ty (reading o w) := by
  subst h
  exact inType_readAs ty w

/-- Settles O19: the command ends as its rule says (`exec_cases`), and the rule gives an integer of the row's result type
(`ruleOf_inType`). -/
theorem resultsStayInTheirType : Obligations.ResultsStayInTheirType := by
  intro i s t ty ht hty herr
  obtain ⟨rfl, -⟩ | ⟨rfl, -⟩ | ⟨-, -, r, hr, h⟩ := exec_cases i s
  · cases hty
  · cases hty
  · obtain rfl := Host.Outcome.next.inj (h.symm.trans ht)
    obtain ⟨v, rfl, hv⟩ | ⟨e, -, he⟩ := finish_cases s r
    · exact ⟨v, ruleOf_inType (fun _ ha => inType_reading ha _) (fun _ hb => inType_reading hb _) hr hty, hv⟩
    · rw [he] at herr
      have hcode := (code_bounds e).1
      rw [show e.code = 0 from herr] at hcode
      exact absurd hcode (by decide)

end Sys2Proof.Safety
end

section
/-! PROOFS. The terms of the claims on a command's word, its operands and its ending: the word of a command (R84), what a bus
that carries an integer reads as (R35), and what a command does on such buses (R17, R37). -/

namespace Sys2Proof

/-- A word as the sum of its fields (R84). -/
theorem wordOf_toNat (op : BitVec 6) (sa sb : BitVec 1) (imm : BitVec 8) :
    (wordOf op sa sb imm).toNat = op.toNat + sa.toNat * 2 ^ 6 + sb.toNat * 2 ^ 7 + imm.toNat * 2 ^ 8 := by
  have happend {m n : Nat} (x : BitVec m) (y : BitVec n) : (x ++ y).toNat = x.toNat * 2 ^ n + y.toNat := by
    rw [BitVec.toNat_append, ← Nat.shiftLeft_add_eq_or_of_lt y.isLt, Nat.shiftLeft_eq]
  unfold wordOf
  simp only [happend, BitVec.toNat_ofNat]
  omega

theorem bit_toNat_mul (x : Src) (k : Nat) : x.bit.toNat * 2 ^ k = if x = .res then 2 ^ k else 0 := by
  cases x <;> simp [Src.bit]

end Sys2Proof

namespace Sys2Proof.Safety

open Sys2Proof.Machine

/-- The word of a well-formed command is the one with its fields. -/
theorem word_of_fields {i : Instr} {sa sb : Src} (hwf : i.wellFormed = true) (ha : i.saBit = sa.bit) (hb : i.sbBit = sb.bit) :
    Word i.row.op sa sb i.immByte i := by
  refine decode_eq_ok_iff.2 ⟨?_, hwf⟩
  have hop : (BitVec.ofNat 6 i.row.op).toNat = i.row.op := BitVec.toNat_ofNat .. ▸ Nat.mod_eq_of_lt (op_lt (row_mem_opcodeMap i))
  rw [← bit_toNat_mul sa 6, ← bit_toNat_mul sb 7, ← ha, ← hb, encode]
  conv_lhs => rw [← hop, ← wordOf_toNat, BitVec.ofNat_toNat, BitVec.setWidth_eq]

/-- The low bits of an integer's two's complement are its two's complement in fewer bits. -/
theorem extractLsb'_ofInt {m n : Nat} (h : n ≤ m) (x : Int) : (BitVec.ofInt m x).extractLsb' 0 n = BitVec.ofInt n x := by
  have hpos (k : Nat) : (0 : Int) < (2 ^ k : Nat) := by positivity
  apply BitVec.eq_of_toNat_eq
  rw [BitVec.extractLsb'_toNat, Nat.shiftRight_zero, BitVec.toNat_ofInt, BitVec.toNat_ofInt, ← Int.toNat_natCast (2 ^ n),
    ← Int.toNat_emod (Int.emod_nonneg _ (hpos m).ne') (hpos n).le,
    Int.emod_emod_of_dvd x (Int.natCast_dvd_natCast.2 (Nat.pow_dvd_pow 2 h)), Int.toNat_natCast]

/-- An integer of the operand's type, put on a bus in two's complement, is what the operand denotes (R35). -/
theorem readAs_ofInt {ty : ValueType} {x : Int} (h : InType ty x) : readAs ty (BitVec.ofInt 256 x) = x := by
  cases ty with
  | fixed | int128 | int64 =>
    obtain ⟨hlow, hhigh⟩ := h
    rw [readAs, extractLsb'_ofInt (by decide), BitVec.toInt_ofInt_eq_self (by decide) (by omega) (by omega)]
  | int256 =>
    obtain ⟨hlow, hhigh⟩ := h
    rw [readAs, BitVec.toInt_ofInt_eq_self (by decide) (by omega) (by omega)]
  | uint64 | uint256 =>
    obtain ⟨hlow, hhigh⟩ := h
    simp only [readAs, extractLsb'_ofInt (show 64 ≤ 256 by decide), BitVec.toNat_ofInt]
    omega

/-- The integers that an operand of a row can denote: all, where the row has no such operand. -/
def OperandInType (ty : Option ValueType) (x : Int) : Prop := ty.elim True (InType · x)

theorem reading_ofInt {ty : Option ValueType} {x : Int} (h : OperandInType ty x) (hty : ty ≠ none) :
    reading ty (BitVec.ofInt 256 x) = x := by
  cases ty with
  | none => exact absurd rfl hty
  | some ty => exact readAs_ofInt h

/-- A rule depends on the operands that its row has. -/
theorem ruleOf_congr {i : Instr} {x x' y y' : Int} (hx : i.row.operandA ≠ none → x = x') (hy : i.row.operandB ≠ none → y = y') :
    ruleOf i x y = ruleOf i x' y' := by
  cases i <;> simp_all [ruleOf, Instr.row]

section
variable {i : Instr} {s : State} {x y v : Int} {r : Except ErrorKind Int}
  (hsa : i.saBit = 0) (hsb : i.sbBit = 0) (hx : OperandInType i.row.operandA x) (hy : OperandInType i.row.operandB y)
include hsa hsb hx hy

/-- A command whose bus operands carry integers of their types ends as its rule says of these integers. -/
theorem exec_withBuses (hr : ruleOf i x y = some r) :
    exec i (withBuses s (BitVec.ofInt 256 x) (BitVec.ofInt 256 y))
      = .next ((withBuses s (BitVec.ofInt 256 x) (BitVec.ofInt 256 y)).finish r) := by
  refine exec_eq_finish ((ruleOf_congr (fun hA => ?_) fun hB => ?_).trans hr)
  · rw [State.readingA, hsa]
    exact reading_ofInt hx hA
  · rw [State.readingB, hsb]
    exact reading_ofInt hy hB

theorem gives_of_ruleOf (hr : ruleOf i x y = some (.ok v)) : Gives i s x y v := exec_withBuses hsa hsb hx hy hr

/-- A success shows its integer in two's complement: the rule gave one of the same. -/
theorem eq_ok_of_gives (hr : ruleOf i x y = some r) (h : Gives i s x y v) :
    ∃ w, r = .ok w ∧ BitVec.ofInt 256 w = BitVec.ofInt 256 v := by
  have hfin := Host.Outcome.next.inj ((exec_withBuses hsa hsb hx hy hr).symm.trans h)
  obtain ⟨w, rfl, hw⟩ | ⟨e, rfl, he⟩ := finish_cases (withBuses s (BitVec.ofInt 256 x) (BitVec.ofInt 256 y)) r
  · exact ⟨w, rfl, congrArg State.res (hw.symm.trans hfin)⟩
  · have hcode : e.code = 0#3 := congrArg State.rspErr (he.symm.trans hfin)
    exact absurd (code_bounds e).1 (by simp [hcode])

end
end Sys2Proof.Safety
end

section
/-! PROOFS. The rules of the conversions in the claims' terms, one equation per branch (R100 to R108). -/

namespace Sys2Proof.Safety

open Sys2Proof.Machine

variable {n x v : Int} {d : Nat}

theorem fromIntRule_ok (h : InType .int64 n) : fromIntRule n = .ok (n * 2 ^ 64) := by
  obtain ⟨hlow, hhigh⟩ := h
  exact if_neg (by omega)

theorem fromIntRule_error (h : ¬ InType .int64 n) : fromIntRule n = .error .rangeError := by
  unfold InType at h
  exact if_pos (by omega)

theorem toIntRule_eq (x : Int) : toIntRule x = .ok (x / 2 ^ 64) := by
  rw [toIntRule, sar_eq_ediv]

theorem fromUintRule_ok (h : n < 2 ^ 63) : fromUintRule n = .ok (n * 2 ^ 64) := if_neg (not_le.2 h)

theorem fromUintRule_error (h : 2 ^ 63 ≤ n) : fromUintRule n = .error .rangeError := if_pos h

theorem toUintRule_ok (h : 0 ≤ x) : toUintRule x = .ok (x / 2 ^ 64) := by
  rw [toUintRule, if_neg (not_lt.2 h), sar_eq_ediv]

theorem toUintRule_error (h : x < 0) : toUintRule x = .error .rangeError := if_pos h

/-- The floor of a 128.128 value is a 64.64 value for the values from `-2^191` to below `2^191` (R104). -/
theorem fits_ediv_iff : Fits (v / 2 ^ 64) ↔ -2 ^ 191 ≤ v ∧ v < 2 ^ 191 := by
  unfold Fits
  omega

theorem from128Rule_ok (h : Fits (v / 2 ^ 64)) : from128Rule v = .ok (v / 2 ^ 64) := by
  rw [from128Rule, sar_eq_ediv, if_pos ((inRange_iff_fits _).2 h)]

theorem from128Rule_error (h : ¬ Fits (v / 2 ^ 64)) : from128Rule v = .error .rangeError := by
  rw [from128Rule, sar_eq_ediv, if_neg (mt (inRange_iff_fits _).1 h)]

theorem pow10_ok (h : d < 78) : pow10 d = .ok (10 ^ d) := by
  rw [pow10, if_neg (not_le.2 h), Nat.cast_pow, Nat.cast_ofNat]

theorem pow10_error (h : 78 ≤ d) : pow10 d = .error .overflowError := if_pos h

theorem fromDecRule_overflow (h : 78 ≤ d) : fromDecRule n d = .error .overflowError := by
  rw [fromDecRule, pow10_error h]

/-- Below 78 decimals, FROMDEC is the range check of the quotient (R107). -/
theorem fromDecRule_eq (h : d < 78) : fromDecRule n d =
    if 2 ^ 127 - 1 < n * 2 ^ 64 / 10 ^ d then .error .rangeError else .ok (n * 2 ^ 64 / 10 ^ d) := by
  have hquot : fdiv (shl n 64) (10 ^ d) = n * 2 ^ 64 / 10 ^ d := fdiv_eq_ediv _ (by positivity)
  rw [fromDecRule, pow10_ok h]
  simp only [hquot, fxMax]

theorem toDecRule_negative (h : x < 0) : toDecRule x d = .error .rangeError := if_pos h

theorem toDecRule_overflow (hx : 0 ≤ x) (h : 78 ≤ d) : toDecRule x d = .error .overflowError := by
  rw [toDecRule, if_neg (not_lt.2 hx), pow10_error h]

/-- On an operand not below 0 and below 78 decimals, TODEC is the check of the product (R108). -/
theorem toDecRule_eq (hx : 0 ≤ x) (h : d < 78) : toDecRule x d =
    if 2 ^ 256 ≤ x * 10 ^ d then .error .overflowError else .ok (x * 10 ^ d / 2 ^ 64) := by
  rw [toDecRule, if_neg (not_lt.2 hx), pow10_ok h]
  simp only [sar_eq_ediv]

end Sys2Proof.Safety
end

section
/-! PROOFS. The conversions (R100 to R109): each command ends as its rule says of the integer that operand A denotes. -/

namespace Sys2Proof.Safety

open Sys2Proof.Machine

section
variable (sa : Src) (d : BitVec 8) (s : State)

theorem exec_fromint : exec (.fromint sa) s = .next (s.finish (fromIntRule (signed128 (srcA s sa)))) := by
  rw [← operandA_eq_srcA, ← readAs_int128]; rfl

theorem exec_toint : exec (.toint sa) s = .next (s.finish (toIntRule (signed128 (srcA s sa)))) := by
  rw [← operandA_eq_srcA, ← readAs_fixed]; rfl

theorem exec_fromuint : exec (.fromuint sa) s = .next (s.finish (fromUintRule (unsigned64 (srcA s sa)))) := by
  rw [← operandA_eq_srcA, ← readAs_uint64]; rfl

theorem exec_touint : exec (.touint sa) s = .next (s.finish (toUintRule (signed128 (srcA s sa)))) := by
  rw [← operandA_eq_srcA, ← readAs_fixed]; rfl

theorem exec_from128 : exec (.from128 sa) s = .next (s.finish (from128Rule (signed256 (srcA s sa)))) := by
  rw [← operandA_eq_srcA, ← readAs_int256]; rfl

theorem exec_to128 : exec (.to128 sa) s = .next (s.finish (to128Rule (signed128 (srcA s sa)))) := by
  rw [← operandA_eq_srcA, ← readAs_fixed]; rfl

theorem exec_fromdec : exec (.fromdec sa d) s = .next (s.finish (fromDecRule (unsigned256 (srcA s sa)) d.toNat)) := by
  rw [← operandA_eq_srcA, ← readAs_uint256]; rfl

theorem exec_todec : exec (.todec sa d) s = .next (s.finish (toDecRule (signed128 (srcA s sa)) d.toNat)) := by
  rw [← operandA_eq_srcA, ← readAs_fixed]; rfl

end

/-- Settles O30: the two branches of `fromIntRule`. -/
theorem fromintShiftsOrRangeError : Obligations.FromintShiftsOrRangeError := by
  intro sa s
  refine ⟨word_of_fields (i := .fromint sa) rfl rfl rfl, fun h => ?_, fun h => ?_⟩
  · rw [exec_fromint, fromIntRule_ok h]; rfl
  · rw [exec_fromint, fromIntRule_error h]; rfl

/-- Settles O31: TOINT and TO128 have one branch each, and the floor of a 64.64 value is an int64 (`int64_of_toIntRule`). -/
theorem tointAndTo128AlwaysSucceed : Obligations.TointAndTo128AlwaysSucceed := by
  intro sa s
  obtain ⟨hlow, hhigh⟩ := int64_of_toIntRule (fits_signed128 (srcA s sa)) (toIntRule_eq _)
  refine ⟨word_of_fields (i := .toint sa) rfl rfl rfl, word_of_fields (i := .to128 sa) rfl rfl rfl, ?_, hlow, hhigh, ?_⟩
  · rw [exec_toint, toIntRule_eq]; rfl
  · rw [exec_to128]; rfl

/-- Settles O32: the two branches of `fromUintRule`, and of `toUintRule`. -/
theorem fromuintAndTouintOrRangeError : Obligations.FromuintAndTouintOrRangeError := by
  intro sa s
  refine ⟨word_of_fields (i := .fromuint sa) rfl rfl rfl, word_of_fields (i := .touint sa) rfl rfl rfl,
    fun h => ?_, fun h => ?_, fun h => ?_, fun h => ?_⟩
  · rw [exec_fromuint, fromUintRule_ok h]; rfl
  · rw [exec_fromuint, fromUintRule_error h]; rfl
  · rw [exec_touint, toUintRule_ok h]; rfl
  · rw [exec_touint, toUintRule_error h]; rfl

/-- Settles O33: the range check of the quotient, as a range of the operand (`fits_ediv_iff`). -/
theorem from128FloorsOrRangeError : Obligations.From128FloorsOrRangeError := by
  intro sa s
  refine ⟨word_of_fields (i := .from128 sa) rfl rfl rfl, fun h => ?_, fun h => ?_⟩
  · rw [exec_from128, from128Rule_ok (fits_ediv_iff.2 h)]; rfl
  · rw [exec_from128, from128Rule_error (fits_ediv_iff.not.2 (by omega))]; rfl

/-- Settles O34: the decimals are tested first, then the quotient (`fromDecRule_eq`). -/
theorem fromdecScalesOrFails : Obligations.FromdecScalesOrFails := by
  intro sa d s
  refine ⟨word_of_fields (i := .fromdec sa d) rfl rfl rfl, fun hd => ?_, fun hd h => ?_, fun hd h => ?_⟩
  · rw [exec_fromdec, fromDecRule_overflow hd]; rfl
  · rw [exec_fromdec, fromDecRule_eq hd, if_neg (not_lt.2 h)]; rfl
  · rw [exec_fromdec, fromDecRule_eq hd, if_pos h]; rfl

/-- Settles O35: the sign is tested first, then the decimals, then the product (`toDecRule_eq`). -/
theorem todecScalesOrFails : Obligations.TodecScalesOrFails := by
  intro sa d s
  refine ⟨word_of_fields (i := .todec sa d) rfl rfl rfl, fun hx => ?_, fun hx hd => ?_, fun hx hd h => ?_, fun hx hd h => ?_⟩
  · rw [exec_todec, toDecRule_negative hx]; rfl
  · rw [exec_todec, toDecRule_overflow hx hd]; rfl
  · rw [exec_todec, toDecRule_eq hx hd, if_pos h]; rfl
  · rw [exec_todec, toDecRule_eq hx hd, if_neg (not_le.2 h)]; rfl

end Sys2Proof.Safety
end

section
/-! PROOFS. The round trips of R109: first of the rules, then of the commands, on integers of the operands' types. -/

namespace Sys2Proof.Safety

open Sys2Proof.Machine

variable {n x w : Int} {d : Nat}

theorem toIntRule_shift (n : Int) : toIntRule (n * 2 ^ 64) = .ok n := by
  rw [toIntRule_eq, Int.mul_ediv_cancel n (by decide)]

theorem toUintRule_shift (h : 0 ≤ n) : toUintRule (n * 2 ^ 64) = .ok n := by
  rw [toUintRule_ok (by omega), Int.mul_ediv_cancel n (by decide)]

theorem from128Rule_shift (h : Fits x) : from128Rule (x * 2 ^ 64) = .ok x := by
  have hx : x * 2 ^ 64 / 2 ^ 64 = x := Int.mul_ediv_cancel x (by decide)
  rw [from128Rule_ok (hx.symm ▸ h), hx]

/-- Both conversions round down, so the way to decimals and back cannot gain; what it gives is then no more than MAX. -/
theorem fromDecRule_of_toDecRule (hfits : Fits x) (hx : 0 ≤ x) (hd : d < 78) (h : toDecRule x d = .ok w) :
    ∃ u, 0 ≤ u ∧ u ≤ x ∧ fromDecRule w d = .ok u := by
  obtain ⟨hw, -⟩ := uint256_of_toDecRule h
  have hp : (0 : Int) < 10 ^ d := by positivity
  rw [toDecRule_eq hx hd] at h
  split_ifs at h
  cases h
  have hdown : x * 10 ^ d / 2 ^ 64 * 2 ^ 64 ≤ x * 10 ^ d := Int.ediv_mul_le _ (by decide)
  have hback : x * 10 ^ d / 2 ^ 64 * 2 ^ 64 / 10 ^ d ≤ x := Int.ediv_le_of_le_mul hp hdown
  refine ⟨_, Int.ediv_nonneg (by omega) hp.le, hback, ?_⟩
  rw [fromDecRule_eq hd, if_neg (not_lt.2 (hback.trans hfits.2))]

/-- Settles O36: each round trip of the rules, on buses that carry the integers (`gives_of_ruleOf`). -/
theorem conversionsRoundTrip : Obligations.ConversionsRoundTrip := by
  intro s y
  refine ⟨fun n hlow hhigh => ?_, fun n hlow hhigh => ?_, fun x hx => ?_, fun x v d hfits hx hd hv => ?_⟩
  · have hn : fromIntRule n = .ok (n * 2 ^ 64) := fromIntRule_ok ⟨hlow, hhigh⟩
    exact ⟨_, gives_of_ruleOf (i := .fromint .bus) rfl rfl ⟨by omega, by omega⟩ trivial (congrArg some hn),
      gives_of_ruleOf (i := .toint .bus) rfl rfl (fits_of_fromIntRule hn) trivial (congrArg some (toIntRule_shift n))⟩
  · have hn : fromUintRule n = .ok (n * 2 ^ 64) := fromUintRule_ok (by omega)
    exact ⟨_, gives_of_ruleOf (i := .fromuint .bus) rfl rfl ⟨hlow, by omega⟩ trivial (congrArg some hn),
      gives_of_ruleOf (i := .touint .bus) rfl rfl (fits_of_fromUintRule hlow hn) trivial (congrArg some (toUintRule_shift hlow))⟩
  · have hw : to128Rule x = .ok (x * 2 ^ 64) := rfl
    exact ⟨_, gives_of_ruleOf (i := .to128 .bus) rfl rfl hx trivial (congrArg some hw),
      gives_of_ruleOf (i := .from128 .bus) rfl rfl (int256_of_to128Rule hx hw) trivial (congrArg some (from128Rule_shift hx))⟩
  · obtain ⟨w, hw, hwv⟩ := eq_ok_of_gives (i := .todec .bus d) rfl rfl hfits trivial rfl hv
    obtain ⟨u, hu, hux, hback⟩ := fromDecRule_of_toDecRule hfits hx (by omega) hw
    refine ⟨u, hu, hux, ?_⟩
    rw [Gives, ← hwv]
    exact gives_of_ruleOf (i := .fromdec .bus d) rfl rfl (uint256_of_toDecRule hw) trivial (congrArg some hback)

end Sys2Proof.Safety
end

section
/-! PROOFS. The rules of linear arithmetic in the claims' terms (R130 to R134): ADD, SUB, NEG and ABS are the range check of
their exact result, and AVG is the floor of the mean. -/

namespace Sys2Proof.Safety

open Sys2Proof.Machine

variable {x y v : Int}

/-- The range check lets through exactly the 64.64 values, as they are. -/
theorem narrow_eq_ok_iff : narrow x = .ok v ↔ Fits x ∧ x = v := by
  rw [← inRange_iff_fits]
  unfold narrow
  split_ifs with h
  · exact ⟨fun hv => ⟨h, Except.ok.inj hv⟩, fun hv => congrArg _ hv.2⟩
  · exact ⟨nofun, fun hv => absurd hv.1 h⟩

theorem narrow_ok (h : Fits x) : narrow x = .ok x := narrow_eq_ok_iff.2 ⟨h, rfl⟩

theorem narrow_error (h : ¬ Fits x) : narrow x = .error .overflowError := if_neg (mt (inRange_iff_fits x).1 h)

theorem addRule_eq_narrow (x y : Int) : addRule x y = narrow (x + y) := rfl

theorem subRule_eq_narrow (x y : Int) : subRule x y = narrow (x - y) := rfl

/-- Of the 64.64 values only MIN has a negative outside the range (R132). -/
theorem fits_neg_iff (h : Fits x) : Fits (-x) ↔ x ≠ -2 ^ 127 := by
  unfold Fits at *
  omega

/-- Of the 64.64 values only MIN has a magnitude outside the range (R133). -/
theorem fits_abs_iff (h : Fits x) : Fits |x| ↔ x ≠ -2 ^ 127 := by
  unfold Fits at *
  rw [abs_eq_max_neg]
  omega

theorem negRule_eq_narrow (h : Fits x) : negRule x = narrow (-x) := by
  by_cases hx : x = -2 ^ 127
  · rw [narrow_error ((fits_neg_iff h).not_left.2 hx)]
    exact if_pos hx
  · rw [narrow_ok ((fits_neg_iff h).2 hx)]
    exact if_neg hx

theorem absRule_eq_narrow (h : Fits x) : absRule x = narrow |x| := by
  unfold absRule
  split_ifs with hpos hmin
  · rw [abs_of_nonneg hpos, narrow_ok h]
  · rw [narrow_error ((fits_abs_iff h).not_left.2 hmin)]
  · rw [narrow_ok ((fits_abs_iff h).2 hmin), abs_of_neg (not_le.1 hpos)]

/-- The bit formula of R134: the floors of the halves lose one half each for odd operands, and `bothOdd` gives it back. -/
theorem avgRule_eq (x y : Int) : avgRule x y = .ok ((x + y) / 2) := by
  have hsum : x / 2 ^ 1 + y / 2 ^ 1 + bothOdd x y = (x + y) / 2 := by
    unfold bothOdd
    split_ifs <;> omega
  rw [avgRule, sar_eq_ediv, sar_eq_ediv, hsum]

theorem addRule_comm (x y : Int) : addRule x y = addRule y x := by
  rw [addRule, addRule, add_comm]

theorem addRule_neg_self (x : Int) : addRule x (-x) = .ok 0 := by
  rw [addRule, add_neg_cancel]; rfl

theorem subRule_self (x : Int) : subRule x x = .ok 0 := by
  rw [subRule, sub_self]; rfl

theorem avgRule_comm (x y : Int) : avgRule x y = avgRule y x := by
  rw [avgRule_eq, avgRule_eq, add_comm]

end Sys2Proof.Safety
end

section
/-! PROOFS. Linear arithmetic (R130 to R134): each command ends as its rule says of the integers its operands denote. -/

namespace Sys2Proof.Safety

open Sys2Proof.Machine

section
variable (sa sb : Src) (s : State)

theorem finish_narrow_ok {r : Int} (h : Fits r) : s.finish (narrow r) = succeeded s r := by
  rw [narrow_ok h]; rfl

theorem finish_narrow_error {r : Int} (h : ¬ Fits r) : s.finish (narrow r) = failed s 2 := by
  rw [narrow_error h]; rfl

theorem exec_add : exec (.add sa sb) s = .next (s.finish (narrow (signed128 (srcA s sa) + signed128 (srcB s sb)))) := by
  rw [← addRule_eq_narrow, ← operandA_eq_srcA, ← operandB_eq_srcB, ← readAs_fixed, ← readAs_fixed]; rfl

theorem exec_sub : exec (.sub sa sb) s = .next (s.finish (narrow (signed128 (srcA s sa) - signed128 (srcB s sb)))) := by
  rw [← subRule_eq_narrow, ← operandA_eq_srcA, ← operandB_eq_srcB, ← readAs_fixed, ← readAs_fixed]; rfl

theorem exec_neg : exec (.neg sa) s = .next (s.finish (narrow (-signed128 (srcA s sa)))) := by
  rw [← negRule_eq_narrow (fits_signed128 _), ← operandA_eq_srcA, ← readAs_fixed]; rfl

theorem exec_abs : exec (.abs sa) s = .next (s.finish (narrow |signed128 (srcA s sa)|)) := by
  rw [← absRule_eq_narrow (fits_signed128 _), ← operandA_eq_srcA, ← readAs_fixed]; rfl

theorem exec_avg : exec (.avg sa sb) s = .next (succeeded s ((signed128 (srcA s sa) + signed128 (srcB s sb)) / 2)) := by
  have hexec : exec (.avg sa sb) s = .next (s.finish (avgRule (signed128 (srcA s sa)) (signed128 (srcB s sb)))) := by
    rw [← operandA_eq_srcA, ← operandB_eq_srcB, ← readAs_fixed, ← readAs_fixed]; rfl
  rw [hexec, avgRule_eq]; rfl

end

/-- Settles O37: both commands are the range check of the exact result. -/
theorem addAndSubAreExactOrOverflow : Obligations.AddAndSubAreExactOrOverflow := by
  intro sa sb s
  refine ⟨word_of_fields (i := .add sa sb) rfl rfl rfl, word_of_fields (i := .sub sa sb) rfl rfl rfl,
    fun h => ?_, fun h => ?_, fun h => ?_, fun h => ?_⟩
  · rw [exec_add, finish_narrow_ok s h]
  · rw [exec_add, finish_narrow_error s h]
  · rw [exec_sub, finish_narrow_ok s h]
  · rw [exec_sub, finish_narrow_error s h]

/-- Settles O38: both commands are the range check of the exact result, which only MIN fails (`fits_neg_iff`, `fits_abs_iff`). -/
theorem negAndAbsOverflowOnlyAtMin : Obligations.NegAndAbsOverflowOnlyAtMin := by
  intro sa s
  have hneg := fits_neg_iff (fits_signed128 (srcA s sa))
  have habs := fits_abs_iff (fits_signed128 (srcA s sa))
  refine ⟨word_of_fields (i := .neg sa) rfl rfl rfl, word_of_fields (i := .abs sa) rfl rfl rfl,
    fun h => ?_, fun h => ?_, fun h => ?_, fun h => ?_⟩
  · rw [exec_neg, finish_narrow_ok s (hneg.2 h)]
  · rw [exec_neg, finish_narrow_error s (hneg.not_left.2 h)]
  · rw [exec_abs, finish_narrow_ok s (habs.2 h)]
  · rw [exec_abs, finish_narrow_error s (habs.not_left.2 h)]

/-- Settles O39: the bit formula is the floor of the mean (`avgRule_eq`), which lies between any two integers. -/
theorem avgIsTheFloorOfTheMean : Obligations.AvgIsTheFloorOfTheMean := fun sa sb s =>
  ⟨word_of_fields (i := .avg sa sb) rfl rfl rfl, exec_avg sa sb s, by omega, by omega⟩

end Sys2Proof.Safety
end

section
/-! PROOFS. The laws of R135, on buses that carry any integers: `Gives` shows a result in two's complement. -/

namespace Sys2Proof.Safety

open Sys2Proof.Machine

variable {i : Instr} {s : State} {x x' y v v' : Int} {r : Except ErrorKind Int}

/-- `Gives` sees operand A and the result only in two's complement. -/
theorem gives_congr (hx : BitVec.ofInt 256 x = BitVec.ofInt 256 x') (hv : BitVec.ofInt 256 v = BitVec.ofInt 256 v') :
    Gives i s x y v ↔ Gives i s x' y v' := by
  simp only [Gives, succeeded, hx, hv]

/-- Only the value of a rule ends as a success, and the success shows it in two's complement (R37, R39). -/
theorem finish_eq_succeeded_iff :
    s.finish r = succeeded s v ↔ ∃ w, r = .ok w ∧ BitVec.ofInt 256 w = BitVec.ofInt 256 v := by
  constructor
  · intro h
    obtain ⟨w, rfl, hw⟩ | ⟨e, -, he⟩ := finish_cases s r
    · exact ⟨w, rfl, congrArg State.res (hw.symm.trans h)⟩
    · have hcode : e.code = 0#3 := congrArg State.rspErr (he.symm.trans h)
      exact absurd (code_bounds e).1 (by simp [hcode])
  · rintro ⟨w, rfl, hw⟩
    have hcommit : s.finish (.ok w) = succeeded s w := rfl
    rw [hcommit, succeeded, succeeded, hw]

/-- A command succeeds with an integer exactly when its rule, on what the buses denote, gives one of the same two's complement. -/
theorem gives_iff (hsa : i.saBit = 0) (hsb : i.sbBit = 0)
    (hr : ruleOf i (reading i.row.operandA (BitVec.ofInt 256 x)) (reading i.row.operandB (BitVec.ofInt 256 y)) = some r) :
    Gives i s x y v ↔ ∃ w, r = .ok w ∧ BitVec.ofInt 256 w = BitVec.ofInt 256 v := by
  have hexec : exec i (withBuses s (BitVec.ofInt 256 x) (BitVec.ofInt 256 y))
      = .next ((withBuses s (BitVec.ofInt 256 x) (BitVec.ofInt 256 y)).finish r) :=
    exec_eq_finish (by rw [State.readingA, State.readingB, hsa, hsb]; exact hr)
  rw [Gives, hexec, Host.Outcome.next.injEq, finish_eq_succeeded_iff]

/-- A command whose rule is the range check of an integer commits that integer or raises OverflowError (R135). -/
theorem gives_or_fails_of_narrow (hsa : i.saBit = 0) (hsb : i.sbBit = 0) (hx : OperandInType i.row.operandA x)
    (hy : OperandInType i.row.operandB y) (hr : ruleOf i x y = some (narrow v)) :
    (Fits v ∧ Gives i s x y v) ∨ Fails i s x y 2 := by
  have hexec := exec_withBuses (s := s) hsa hsb hx hy hr
  by_cases hv : Fits v
  · exact .inl ⟨hv, hexec.trans (congrArg _ (finish_narrow_ok _ hv))⟩
  · exact .inr (hexec.trans (congrArg _ (finish_narrow_error _ hv)))

/-- What SUB gives is the exact difference, a 64.64 value (R131). -/
theorem fits_of_gives_sub (hx : Fits x) (hy : Fits y) (h : Gives (.sub .bus .bus) s x y v) :
    Fits (x - y) ∧ BitVec.ofInt 256 (x - y) = BitVec.ofInt 256 v := by
  obtain ⟨w, hw, hwv⟩ := eq_ok_of_gives (i := .sub .bus .bus) rfl rfl hx hy rfl h
  obtain ⟨hfits, rfl⟩ := narrow_eq_ok_iff.1 hw
  exact ⟨hfits, hwv⟩

/-- Settles O40: the laws of the rules, on what the buses carry. -/
theorem linearLaws : Obligations.LinearLaws := by
  intro s
  refine ⟨fun x hx hmin => ?_, fun x => ?_, fun x y v => ?_, fun x y v => ?_, fun x y v w hx hy hv hw => ?_,
    fun x y hx hy => ?_⟩
  · have hm : Fits (-x) := (fits_neg_iff hx).2 hmin
    have hneg : negRule x = .ok (-x) := (negRule_eq_narrow hx).trans (narrow_ok hm)
    exact ⟨-x, hm, gives_of_ruleOf (i := .neg .bus) rfl rfl hx trivial (congrArg some hneg),
      gives_of_ruleOf (i := .add .bus .bus) rfl rfl hx hm (congrArg some (addRule_neg_self x))⟩
  · exact (gives_iff rfl rfl rfl).2 ⟨0, subRule_self _, rfl⟩
  · exact (gives_iff rfl rfl rfl).trans (addRule_comm .. ▸ (gives_iff rfl rfl rfl).symm)
  · exact (gives_iff rfl rfl rfl).trans (avgRule_comm .. ▸ (gives_iff rfl rfl rfl).symm)
  · obtain ⟨hfits, hv⟩ := fits_of_gives_sub hx hy hv
    obtain ⟨hfits', hw⟩ := fits_of_gives_sub hy hx hw
    have hneg : negRule (y - x) = .ok (x - y) := by rw [negRule_eq_narrow hfits', neg_sub, narrow_ok hfits]
    exact (gives_congr hw hv).1 (gives_of_ruleOf (i := .neg .bus) rfl rfl hfits' trivial (congrArg some hneg))
  · exact ⟨gives_or_fails_of_narrow (i := .add .bus .bus) rfl rfl hx hy rfl,
      gives_or_fails_of_narrow (i := .sub .bus .bus) rfl rfl hx hy rfl,
      gives_or_fails_of_narrow (i := .neg .bus) rfl rfl hx trivial (congrArg some (negRule_eq_narrow hx)),
      gives_or_fails_of_narrow (i := .abs .bus) rfl rfl hx trivial (congrArg some (absRule_eq_narrow hx))⟩

end Sys2Proof.Safety
end

section
/-! PROOFS. The rules of multiplicative arithmetic in the claims' terms (R150 to R157): MUL, DIV, DIVI and INV are the range
check of a quotient truncated toward zero, and MULI, MULU and DIVU have one equation per branch. -/

namespace Sys2Proof.Safety

open Sys2Proof.Machine

variable {x y n : Int}

theorem mulRule_eq_narrow (x y : Int) : mulRule x y = narrow (tdiv (x * y) (2 ^ 64)) := rfl

theorem mulRule_comm (x y : Int) : mulRule x y = mulRule y x := by
  rw [mulRule_eq_narrow, mulRule_eq_narrow, mul_comm]

theorem muliRule_ok (h : InType .int256 (x * n)) : muliRule x n = .ok (tdiv (x * n) (2 ^ 64)) := by
  obtain ⟨hlow, hhigh⟩ := h
  exact if_neg (by omega)

theorem muliRule_error (h : ¬ InType .int256 (x * n)) : muliRule x n = .error .overflowError := by
  unfold InType at h
  exact if_pos (by omega)

theorem muluRule_negative (h : x < 0) : muluRule x n = .error .rangeError := if_pos h

theorem muluRule_ok (hx : 0 ≤ x) (h : x * n < 2 ^ 256) : muluRule x n = .ok (x * n / 2 ^ 64) := by
  rw [muluRule, if_neg (not_lt.2 hx), if_neg (not_le.2 h), sar_eq_ediv]

theorem muluRule_overflow (hx : 0 ≤ x) (h : 2 ^ 256 ≤ x * n) : muluRule x n = .error .overflowError := by
  rw [muluRule, if_neg (not_lt.2 hx), if_pos h]

theorem divRule_zero (x : Int) : divRule x 0 = .error .divisionByZero := if_pos rfl

theorem divRule_eq_narrow (h : y ≠ 0) : divRule x y = narrow (tdiv (x * 2 ^ 64) y) := if_neg h

theorem diviRule_eq_divRule (x y : Int) : diviRule x y = divRule x y := rfl

theorem divuRule_zero (x : Int) : divuRule x 0 = .error .divisionByZero := if_pos rfl

/-- On a divisor above 0, DIVU is the check of the floor against MAX (R156). -/
theorem divuRule_eq (h : 0 < y) :
    divuRule x y = if 2 ^ 127 - 1 < x * 2 ^ 64 / y then .error .overflowError else .ok (x * 2 ^ 64 / y) := by
  rw [divuRule, if_neg h.ne', fdiv_eq_ediv _ h.le]; rfl

theorem invRule_eq_divRule (x : Int) : invRule x = divRule (2 ^ 64) x := rfl

/-- The reciprocal of a value of magnitude 3 or more is at most a third of `2^128`; the smaller values are computed (R157). -/
theorem fits_reciprocal_iff (hx : x ≠ 0) : Fits (truncDiv (2 ^ 64 * 2 ^ 64) x) ↔ x < -1 ∨ 2 < x := by
  rw [← tdiv_eq_truncDiv]
  by_cases hbig : 3 ≤ x.natAbs
  · have hthird : (tdiv (2 ^ 64 * 2 ^ 64) x).natAbs ≤ 2 ^ 128 / 3 := by
      rw [tdiv, Int.natAbs_tdiv]
      exact Nat.div_le_div_left hbig (by decide)
    exact iff_of_true (by unfold Fits; omega) (by omega)
  · unfold Fits tdiv
    obtain rfl | rfl | rfl | rfl : x = -2 ∨ x = -1 ∨ x = 1 ∨ x = 2 := by omega
    all_goals decide

end Sys2Proof.Safety
end

section
/-! PROOFS. Multiplicative arithmetic (R150 to R157): each command ends as its rule says of the integers its operands denote. -/

namespace Sys2Proof.Safety

open Sys2Proof.Machine

section
variable (sa sb : Src) (s : State)

theorem exec_mul :
    exec (.mul sa sb) s = .next (s.finish (narrow (truncDiv (signed128 (srcA s sa) * signed128 (srcB s sb)) (2 ^ 64)))) := by
  rw [← tdiv_eq_truncDiv, ← mulRule_eq_narrow, ← operandA_eq_srcA, ← operandB_eq_srcB, ← readAs_fixed, ← readAs_fixed]; rfl

theorem exec_muli : exec (.muli sa sb) s = .next (s.finish (muliRule (signed128 (srcA s sa)) (signed256 (srcB s sb)))) := by
  rw [← operandA_eq_srcA, ← operandB_eq_srcB, ← readAs_fixed, ← readAs_int256]; rfl

theorem exec_mulu : exec (.mulu sa sb) s = .next (s.finish (muluRule (signed128 (srcA s sa)) (unsigned256 (srcB s sb)))) := by
  rw [← operandA_eq_srcA, ← operandB_eq_srcB, ← readAs_fixed, ← readAs_uint256]; rfl

theorem exec_div : exec (.div sa sb) s = .next (s.finish (divRule (signed128 (srcA s sa)) (signed128 (srcB s sb)))) := by
  rw [← operandA_eq_srcA, ← operandB_eq_srcB, ← readAs_fixed, ← readAs_fixed]; rfl

theorem exec_divi : exec (.divi sa sb) s = .next (s.finish (divRule (signed256 (srcA s sa)) (signed256 (srcB s sb)))) := by
  rw [← diviRule_eq_divRule, ← operandA_eq_srcA, ← operandB_eq_srcB, ← readAs_int256, ← readAs_int256]; rfl

theorem exec_divu : exec (.divu sa sb) s = .next (s.finish (divuRule (unsigned256 (srcA s sa)) (unsigned256 (srcB s sb)))) := by
  rw [← operandA_eq_srcA, ← operandB_eq_srcB, ← readAs_uint256, ← readAs_uint256]; rfl

theorem exec_inv : exec (.inv sa) s = .next (s.finish (divRule (2 ^ 64) (signed128 (srcA s sa)))) := by
  rw [← invRule_eq_divRule, ← operandA_eq_srcA, ← readAs_fixed]; rfl

/-! The three endings of the division rule. -/

variable {x y : Int}

theorem finish_divRule_zero (hy : y = 0) : s.finish (divRule x y) = failed s 3 := by
  rw [hy, divRule_zero]; rfl

theorem finish_divRule_ok (hy : y ≠ 0) (h : Fits (truncDiv (x * 2 ^ 64) y)) :
    s.finish (divRule x y) = succeeded s (truncDiv (x * 2 ^ 64) y) := by
  rw [divRule_eq_narrow hy, tdiv_eq_truncDiv, finish_narrow_ok s h]

theorem finish_divRule_overflow (hy : y ≠ 0) (h : ¬ Fits (truncDiv (x * 2 ^ 64) y)) : s.finish (divRule x y) = failed s 2 := by
  rw [divRule_eq_narrow hy, tdiv_eq_truncDiv, finish_narrow_error s h]

end

/-- Settles O41: MUL is the range check of the truncated product. -/
theorem mulTruncatesOrOverflows : Obligations.MulTruncatesOrOverflows := by
  intro sa sb s
  refine ⟨word_of_fields (i := .mul sa sb) rfl rfl rfl, fun h => ?_, fun h => ?_⟩
  · rw [exec_mul, finish_narrow_ok s h]
  · rw [exec_mul, finish_narrow_error s h]

/-- Settles O42: the two branches of `muliRule`, which tests the product before the shift. -/
theorem muliTruncatesOrOverflows : Obligations.MuliTruncatesOrOverflows := by
  intro sa sb s
  refine ⟨word_of_fields (i := .muli sa sb) rfl rfl rfl, fun h => ?_, fun h => ?_⟩
  · rw [exec_muli, muliRule_ok h, tdiv_eq_truncDiv]; rfl
  · rw [exec_muli, muliRule_error h]; rfl

/-- Settles O43: the sign is tested first, then the product. -/
theorem muluFloorsOrFails : Obligations.MuluFloorsOrFails := by
  intro sa sb s
  refine ⟨word_of_fields (i := .mulu sa sb) rfl rfl rfl, fun hx => ?_, fun hx h => ?_, fun hx h => ?_⟩
  · rw [exec_mulu, muluRule_negative hx]; rfl
  · rw [exec_mulu, muluRule_ok hx h]; rfl
  · rw [exec_mulu, muluRule_overflow hx h]; rfl

/-- Settles O44: both commands are the division rule, of 64.64 values and of int256 values, with its three endings. -/
theorem divAndDiviTruncateOrFail : Obligations.DivAndDiviTruncateOrFail := by
  intro sa sb s
  refine ⟨word_of_fields (i := .div sa sb) rfl rfl rfl, word_of_fields (i := .divi sa sb) rfl rfl rfl,
    fun hy => ?_, fun hy h => ?_, fun hy h => ?_, fun hy => ?_, fun hy h => ?_, fun hy h => ?_⟩
  · rw [exec_div, finish_divRule_zero s hy]
  · rw [exec_div, finish_divRule_ok s hy h]
  · rw [exec_div, finish_divRule_overflow s hy h]
  · rw [exec_divi, finish_divRule_zero s hy]
  · rw [exec_divi, finish_divRule_ok s hy h]
  · rw [exec_divi, finish_divRule_overflow s hy h]

/-- Settles O45: the zero divisor is tested first, then the floor (`divuRule_eq`). -/
theorem divuFloorsOrFails : Obligations.DivuFloorsOrFails := by
  intro sa sb s
  have hpos (hy : unsigned256 (srcB s sb) ≠ 0) : 0 < unsigned256 (srcB s sb) := lt_of_le_of_ne (Int.natCast_nonneg _) hy.symm
  refine ⟨word_of_fields (i := .divu sa sb) rfl rfl rfl, fun hy => ?_, fun hy h => ?_, fun hy h => ?_⟩
  · rw [exec_divu, hy, divuRule_zero]; rfl
  · rw [exec_divu, divuRule_eq (hpos hy), if_neg (not_lt.2 h)]; rfl
  · rw [exec_divu, divuRule_eq (hpos hy), if_pos h]; rfl

/-- Settles O46: INV divides ONE by its operand, and `fits_reciprocal_iff` says which quotients are 64.64 values. -/
theorem invFailsOnlyNearZero : Obligations.InvFailsOnlyNearZero := by
  intro sa s
  refine ⟨word_of_fields (i := .inv sa) rfl rfl rfl, fun hx => ?_, fun hx => ?_, fun hx => ?_⟩
  · rw [exec_inv, finish_divRule_zero s hx]
  · rw [exec_inv, finish_divRule_overflow s (by omega) ((fits_reciprocal_iff (by omega)).not.2 (by omega))]
  · rw [exec_inv, finish_divRule_ok s (by omega) ((fits_reciprocal_iff (by omega)).2 hx)]; rfl

end Sys2Proof.Safety
end

section
/-! PROOFS. The laws of R158: first of the rules, then of the commands, on buses that carry the integers. -/

namespace Sys2Proof.Safety

open Sys2Proof.Machine

variable {i : Instr} {s : State} {x y v w m : Int} {c : ErrCode} {r : Except ErrorKind Int}

/-! ### A quotient times its divisor -/

/-- A truncated quotient times its divisor has the sign of the dividend, and the largest multiple of the divisor in it as its
magnitude. -/
theorem tdiv_mul_self (x y : Int) : tdiv x y * y = x.sign * ((x.natAbs / y.natAbs * y.natAbs : Nat) : Int) := by
  rw [tdiv_eq_truncDiv, truncDiv, mul_right_comm, mul_assoc x.sign, Int.sign_mul_self]
  push_cast
  ring

/-- Truncation is symmetric: the sign stays outside. -/
theorem tdiv_sign_mul (x : Int) (n k : Nat) : tdiv (x.sign * n) k = x.sign * ((n / k : Nat) : Int) := by
  unfold tdiv
  obtain h | h | h := x.sign_trichotomy <;> simp [h, Int.neg_tdiv]

/-- MUL of a quotient of DIV by its divisor: DIV loses less than `|y|` of `|x| * 2^64`, and nothing of a multiple of `y`; MUL
rounds what is left toward zero. -/
theorem tdiv_tdiv_mul (x : Int) (hy : y ≠ 0) : ∃ p : Nat, p ≤ x.natAbs * 2 ^ 64 ∧ x.natAbs * 2 ^ 64 < p + y.natAbs ∧
    (y ∣ x * 2 ^ 64 → p = x.natAbs * 2 ^ 64) ∧
    tdiv (tdiv (x * 2 ^ 64) y * y) (2 ^ 64) = x.sign * ((p / 2 ^ 64 : Nat) : Int) := by
  have habs : (x * 2 ^ 64).natAbs = x.natAbs * 2 ^ 64 := Int.natAbs_mul ..
  have hsign : (x * 2 ^ 64).sign = x.sign := (Int.sign_mul ..).trans (mul_one _)
  refine ⟨x.natAbs * 2 ^ 64 / y.natAbs * y.natAbs, Nat.div_mul_le_self .., Nat.lt_div_mul_add (Int.natAbs_pos.2 hy),
    fun h => Nat.div_mul_cancel (habs ▸ Int.natAbs_dvd_natAbs.2 h), ?_⟩
  rw [tdiv_mul_self, hsign, habs]
  exact tdiv_sign_mul ..

/-- The bounds of R158 on what DIV and then MUL lose. -/
theorem tdiv_tdiv_mul_bounds (hy : y ≠ 0) (hm : tdiv (tdiv (x * 2 ^ 64) y * y) (2 ^ 64) = m) :
    (m = 0 ∨ m.sign = x.sign) ∧ 0 ≤ |x| - |m| ∧ |x| - |m| ≤ (|y| - 1 + (2 ^ 64 - 1)) / 2 ^ 64 ∧
      (y ∣ x * 2 ^ 64 → m = x) ∧ (|y| ≤ 2 ^ 64 + 1 → |x - m| ≤ 1) := by
  obtain ⟨p, hle, hlt, hexact, hp⟩ := tdiv_tdiv_mul x hy
  rw [hp] at hm
  simp only [Int.abs_eq_natAbs]
  obtain hx | rfl | hx := lt_trichotomy x 0
  · rw [Int.sign_eq_neg_one_of_neg hx] at hm ⊢
    have hneg : m = 0 ∨ m.sign = -1 := by rw [Int.sign_eq_neg_one_iff_neg]; omega
    exact ⟨hneg, by omega, by omega, by omega, by omega⟩
  · rw [Int.sign_zero, zero_mul] at hm
    exact ⟨.inl hm.symm, by omega, by omega, by omega, by omega⟩
  · rw [Int.sign_eq_one_of_pos hx] at hm ⊢
    have hpos : m = 0 ∨ m.sign = 1 := by rw [Int.sign_eq_one_iff_pos]; omega
    exact ⟨hpos, by omega, by omega, by omega, by omega⟩

/-! ### What a success or a failure says of the rule -/

/-- 64.64 values that a bus shows alike are equal. -/
theorem eq_of_ofInt_eq (hv : Fits v) (hw : Fits w) (h : BitVec.ofInt 256 v = BitVec.ofInt 256 w) : v = w := by
  rw [← signed128_ofInt hv, h, signed128_ofInt hw]

theorem fits_one : Fits (2 ^ 64) := by
  unfold Fits
  decide

/-- What MUL gives is the truncated product (R151). -/
theorem tdiv_of_gives_mul (hx : Fits x) (hy : Fits y) (hv : Fits v) (h : Gives (.mul .bus .bus) s x y v) :
    tdiv (x * y) (2 ^ 64) = v := by
  obtain ⟨w, hw, hwv⟩ := eq_ok_of_gives (i := .mul .bus .bus) rfl rfl hx hy rfl h
  obtain ⟨hfits, rfl⟩ := narrow_eq_ok_iff.1 hw
  exact eq_of_ofInt_eq hfits hv hwv

/-- What DIV gives is the truncated quotient by a divisor that is not 0 (R154). -/
theorem tdiv_of_gives_div (hx : Fits x) (hy : Fits y) (hv : Fits v) (h : Gives (.div .bus .bus) s x y v) :
    y ≠ 0 ∧ tdiv (x * 2 ^ 64) y = v := by
  obtain ⟨w, hw, hwv⟩ := eq_ok_of_gives (i := .div .bus .bus) rfl rfl hx hy rfl h
  have hy0 : y ≠ 0 := by rintro rfl; cases (divRule_zero x).symm.trans hw
  rw [divRule_eq_narrow hy0] at hw
  obtain ⟨hfits, rfl⟩ := narrow_eq_ok_iff.1 hw
  exact ⟨hy0, eq_of_ofInt_eq hfits hv hwv⟩

/-- Given a rule's result, whether it ends as a failure does not depend on the buses. -/
theorem finish_withBuses_eq_failed_iff {a b : Bus} :
    (withBuses s a b).finish r = failed (withBuses s a b) c ↔ s.finish r = failed s c := by
  cases r <;> exact ⟨congrArg (fun t : State => { t with host := s.host }), congrArg (withBuses · a b)⟩

/-- A command fails with a code exactly when its rule, on what the buses denote, ends so. -/
theorem fails_iff (hsa : i.saBit = 0) (hsb : i.sbBit = 0)
    (hr : ruleOf i (reading i.row.operandA (BitVec.ofInt 256 x)) (reading i.row.operandB (BitVec.ofInt 256 y)) = some r) :
    Fails i s x y c ↔ s.finish r = failed s c := by
  have hexec : exec i (withBuses s (BitVec.ofInt 256 x) (BitVec.ofInt 256 y))
      = .next ((withBuses s (BitVec.ofInt 256 x) (BitVec.ofInt 256 y)).finish r) :=
    exec_eq_finish (by rw [State.readingA, State.readingB, hsa, hsb]; exact hr)
  rw [Fails, hexec, Host.Outcome.next.injEq, finish_withBuses_eq_failed_iff]

/-- On the buses, DIV of ONE is the rule of INV. -/
theorem ruleOf_div_one (x : Int) : ruleOf (.div .bus .bus) (reading (some .fixed) (BitVec.ofInt 256 (2 ^ 64))) x = invRule x := by
  rw [reading_ofInt (ty := some .fixed) fits_one (Option.some_ne_none _)]; rfl

/-- Settles O47: the laws of the rules, on what the buses carry; the last is `tdiv_tdiv_mul_bounds`. -/
theorem multiplicativeLaws : Obligations.MultiplicativeLaws := by
  intro s
  refine ⟨fun x hx => ?_, fun x y v => ?_, fun x y v hx hmin hy hv hvmin h => ?_, fun x y v c => ⟨?_, ?_⟩,
    fun x y q m hx hy hq hm hdiv hmul => ?_⟩
  · have hone : mulRule x (2 ^ 64) = .ok x := by
      rw [mulRule_eq_narrow, tdiv, Int.mul_tdiv_cancel x (by decide), narrow_ok hx]
    exact gives_of_ruleOf (i := .mul .bus .bus) rfl rfl hx fits_one (congrArg some hone)
  · exact (gives_iff rfl rfl rfl).trans (mulRule_comm .. ▸ (gives_iff rfl rfl rfl).symm)
  · have hneg : mulRule (-x) y = .ok (-v) := by
      rw [mulRule_eq_narrow, neg_mul, tdiv, Int.neg_tdiv, ← tdiv, tdiv_of_gives_mul hx hy hv h,
        narrow_ok ((fits_neg_iff hv).2 hvmin)]
    exact gives_of_ruleOf (i := .mul .bus .bus) rfl rfl ((fits_neg_iff hx).2 hmin) hy (congrArg some hneg)
  · exact (gives_iff rfl rfl rfl).trans (gives_iff rfl rfl (ruleOf_div_one _)).symm
  · exact (fails_iff rfl rfl rfl).trans (fails_iff rfl rfl (ruleOf_div_one _)).symm
  · obtain ⟨hy0, hquot⟩ := tdiv_of_gives_div hx hy hq hdiv
    exact tdiv_tdiv_mul_bounds hy0 (hquot ▸ tdiv_of_gives_mul hq hy hm hmul)

end Sys2Proof.Safety
end

section
/-! PROOFS. The rules of the roots in the claims' terms (R180, R182): the model's root is the library's, and which roots are
64.64 values. -/

namespace Sys2Proof.Safety

open Sys2Proof.Machine

variable {x y n : Int}

theorem isqrt_toNat (n : Int) : (isqrt n.toNat : Int) = Int.sqrt n :=
  congrArg Nat.cast (Nat.eq_sqrt.2 (isqrt_spec n.toNat))

theorem int_sqrt_bounds (h : 0 ≤ n) : Int.sqrt n * Int.sqrt n ≤ n ∧ n < (Int.sqrt n + 1) * (Int.sqrt n + 1) := by
  lift n to Nat using h
  exact ⟨mod_cast Nat.sqrt_le n, mod_cast Nat.lt_succ_sqrt n⟩

/-- A root is below every `m` whose square is above the number. -/
theorem int_sqrt_lt {m : Int} (h : 0 ≤ n) (hm : 0 ≤ m) (hlt : n < m * m) : Int.sqrt n < m :=
  lt_of_mul_self_lt_mul_self₀ hm ((int_sqrt_bounds h).1.trans_lt hlt)

/-- A root is a 64.64 value for the numbers below `2^254`. -/
theorem fits_int_sqrt_iff (h : 0 ≤ n) : Fits (Int.sqrt n) ↔ n < 2 ^ 254 := by
  have hpos := Int.sqrt_nonneg n
  constructor
  · rintro ⟨-, hroot⟩
    calc n < (Int.sqrt n + 1) * (Int.sqrt n + 1) := (int_sqrt_bounds h).2
      _ ≤ 2 ^ 127 * 2 ^ 127 := Int.mul_le_mul (by omega) (by omega) (by omega) (by omega)
      _ = 2 ^ 254 := by norm_num
  · intro hn
    have hroot := int_sqrt_lt (m := 2 ^ 127) h (by decide) (by omega)
    unfold Fits
    omega

/-- Of the products of 64.64 values only that of MIN and MIN reaches `2^254` (R180). -/
theorem mul_lt_iff_not_min (hx : Fits x) (hy : Fits y) : x * y < 2 ^ 254 ↔ ¬ (x = -2 ^ 127 ∧ y = -2 ^ 127) := by
  constructor
  · rintro h ⟨rfl, rfl⟩
    exact absurd h (by decide)
  · intro hmin
    unfold Fits at hx hy
    have hle : x.natAbs * y.natAbs < 2 ^ 127 * 2 ^ 127 := by
      obtain hx' | hy' : x.natAbs < 2 ^ 127 ∨ y.natAbs < 2 ^ 127 := by omega
      · exact Nat.mul_lt_mul_of_lt_of_le hx' (by omega) (by decide)
      · exact Nat.mul_lt_mul_of_le_of_lt (by omega) hy' (by decide)
    have habs : (x * y).natAbs = x.natAbs * y.natAbs := Int.natAbs_mul x y
    omega

theorem gavgRule_negative (h : x * y < 0) : gavgRule x y = .error .domainError := if_pos h

theorem gavgRule_eq_narrow (h : 0 ≤ x * y) : gavgRule x y = narrow (Int.sqrt (x * y)) := by
  rw [gavgRule, if_neg (not_lt.2 h), isqrt_toNat]

theorem gavgRule_comm (x y : Int) : gavgRule x y = gavgRule y x := by
  rw [gavgRule, gavgRule, mul_comm]

theorem sqrtRule_negative (h : x < 0) : sqrtRule x = .error .domainError := if_pos h

theorem sqrtRule_eq (h : 0 ≤ x) : sqrtRule x = .ok (Int.sqrt (x * 2 ^ 64)) := by
  rw [sqrtRule, if_neg (not_lt.2 h), isqrt_toNat, shl]

end Sys2Proof.Safety
end

section
/-! PROOFS. The roots (R180, R182): each command ends as its rule says of the integers its operands denote; and their laws
(R190). -/

namespace Sys2Proof.Safety

open Sys2Proof.Machine

theorem exec_gavg (sa sb : Src) (s : State) :
    exec (.gavg sa sb) s = .next (s.finish (gavgRule (signed128 (srcA s sa)) (signed128 (srcB s sb)))) := by
  rw [← operandA_eq_srcA, ← operandB_eq_srcB, ← readAs_fixed, ← readAs_fixed]; rfl

theorem exec_sqrt (sa : Src) (s : State) : exec (.sqrt sa) s = .next (s.finish (sqrtRule (signed128 (srcA s sa)))) := by
  rw [← operandA_eq_srcA, ← readAs_fixed]; rfl

/-- Settles O48: GAVG is the range check of the root, which only MIN and MIN fail (`fits_int_sqrt_iff`, `mul_lt_iff_not_min`). -/
theorem gavgIsTheFloorRootOfTheProduct : Obligations.GavgIsTheFloorRootOfTheProduct := by
  intro sa sb s
  have hfits := mul_lt_iff_not_min (fits_signed128 (srcA s sa)) (fits_signed128 (srcB s sb))
  rw [exec_gavg]
  generalize signed128 (srcA s sa) = x, signed128 (srcB s sb) = y at *
  refine ⟨word_of_fields (i := .gavg sa sb) rfl rfl rfl, fun h => ?_, fun hx hy => ?_, fun h hmin => ?_⟩
  · rw [gavgRule_negative h]; rfl
  · have hprod : 0 ≤ x * y := by rw [hx, hy]; decide
    rw [gavgRule_eq_narrow hprod, finish_narrow_error]
    rw [fits_int_sqrt_iff hprod, hfits]
    exact not_not.2 ⟨hx, hy⟩
  · obtain ⟨hlow, hhigh⟩ := int_sqrt_bounds h
    refine ⟨_, Int.sqrt_nonneg _, hlow, hhigh, ?_⟩
    rw [gavgRule_eq_narrow h, finish_narrow_ok s ((fits_int_sqrt_iff h).2 (hfits.2 hmin))]

/-- Settles O50: the two branches of `sqrtRule`. -/
theorem sqrtIsTheFloorRoot : Obligations.SqrtIsTheFloorRoot := by
  intro sa s
  have hfits := fits_signed128 (srcA s sa)
  rw [exec_sqrt]
  generalize signed128 (srcA s sa) = x at *
  refine ⟨word_of_fields (i := .sqrt sa) rfl rfl rfl, fun h => ?_, fun h => ?_⟩
  · rw [sqrtRule_negative h]; rfl
  · obtain ⟨-, hmax⟩ := hfits
    have hpos : 0 ≤ x * 2 ^ 64 := by omega
    obtain ⟨hlow, hhigh⟩ := int_sqrt_bounds hpos
    refine ⟨_, Int.sqrt_nonneg _, int_sqrt_lt hpos (by decide) (by omega), hlow, hhigh, ?_⟩
    rw [sqrtRule_eq h]; rfl

variable {x k : Int}

theorem sqrtRule_square (h : 0 ≤ k) : sqrtRule (k * k * 2 ^ 64) = .ok (k * 2 ^ 64) := by
  rw [sqrtRule_eq (by positivity), show k * k * 2 ^ 64 * 2 ^ 64 = k * 2 ^ 64 * (k * 2 ^ 64) by ring, Int.sqrt_eq,
    Int.natAbs_of_nonneg (by positivity)]

theorem gavgRule_self (x : Int) : gavgRule x x = narrow |x| := by
  rw [gavgRule_eq_narrow (mul_self_nonneg x), Int.sqrt_eq, Int.abs_eq_natAbs]

theorem gavgRule_one (hx : Fits x) (h : 0 ≤ x) : gavgRule x (2 ^ 64) = sqrtRule x := by
  have hroot := sqrtRule_eq h
  rw [hroot, gavgRule_eq_narrow (by positivity), narrow_ok (fits_of_sqrtRule hx hroot)]

/-- Settles O55: the laws of the rules, on what the buses carry. -/
theorem rootLaws : Obligations.RootLaws := by
  intro s
  refine ⟨fun k y hk hsq => ?_, fun x hx hmin => ?_, fun x y hx h => ?_, fun x y v => ?_⟩
  · have hpos : 0 ≤ k * k := mul_self_nonneg k
    exact gives_of_ruleOf (i := .sqrt .bus) rfl rfl ⟨by omega, by omega⟩ trivial (congrArg some (sqrtRule_square hk))
  · have hself : gavgRule x x = .ok |x| := (gavgRule_self x).trans (narrow_ok ((fits_abs_iff hx).2 hmin))
    exact gives_of_ruleOf (i := .gavg .bus .bus) rfl rfl hx hx (congrArg some hself)
  · have hroot := sqrtRule_eq h
    exact ⟨_, gives_of_ruleOf (i := .gavg .bus .bus) rfl rfl hx fits_one (congrArg some ((gavgRule_one hx h).trans hroot)),
      gives_of_ruleOf (i := .sqrt .bus) rfl rfl hx trivial (congrArg some hroot)⟩
  · exact (gives_iff rfl rfl rfl).trans (gavgRule_comm .. ▸ (gives_iff rfl rfl rfl).symm)

end Sys2Proof.Safety
end

section
/-! PROOFS. POW (R181): the claims' while loop always ends, the model's bounded loop ends with the same, and the laws of POW
follow from runs of the while loop (R190). -/

namespace Sys2Proof.Safety

open Sys2Proof.Machine

variable {acc b x n p q : Int} {e k : Nat} {r : Option Int}

theorem mul64_ok (h : Fits (truncDiv (p * q) (2 ^ 64))) : mul64 p q = .ok (truncDiv (p * q) (2 ^ 64)) := by
  rw [mul64, tdiv_eq_truncDiv, narrow_ok h]

theorem mul64_error (h : ¬ Fits (truncDiv (p * q) (2 ^ 64))) : mul64 p q = .error .overflowError := by
  rw [mul64, tdiv_eq_truncDiv, narrow_error h]

/-- The loop ends: each round halves the exponent, and one of the relation's cases applies to it. -/
theorem exists_powLoop (acc b : Int) (e : Nat) : ∃ r, PowLoop acc b e r := by
  induction e using Nat.strong_induction_on generalizing acc b with
  | _ e ih =>
    obtain rfl | hzero := eq_or_ne e 0
    · exact ⟨_, .done acc b⟩
    by_cases hacc : e % 2 = 1 → Fits (truncDiv (acc * b) (2 ^ 64))
    case neg =>
      obtain ⟨hodd, hout⟩ := Classical.not_imp.1 hacc
      exact ⟨_, .accOverflows acc b e hodd hout⟩
    by_cases hmore : e / 2 = 0
    · obtain rfl : e = 1 := by omega
      exact ⟨_, .last acc b (hacc rfl)⟩
    by_cases hsq : Fits (truncDiv (b * b) (2 ^ 64))
    case neg => exact ⟨_, .squareOverflows acc b e hmore hacc hsq⟩
    obtain heven | hodd := Nat.mod_two_eq_zero_or_one e
    · obtain ⟨r, hr⟩ := ih (e / 2) (by omega) acc (truncDiv (b * b) (2 ^ 64))
      exact ⟨r, .even acc b e r heven hmore hsq hr⟩
    · obtain ⟨r, hr⟩ := ih (e / 2) (by omega) (truncDiv (acc * b) (2 ^ 64)) (truncDiv (b * b) (2 ^ 64))
      exact ⟨r, .odd acc b e r hodd hmore (hacc hodd) hsq hr⟩

/-- What the while loop ends with, as the rule's value or error. -/
def powEnding (r : Option Int) : Except ErrorKind Int := r.elim (.error .overflowError) .ok

/-- An exponent that is not 0 leaves a round to run. -/
theorem exists_succ_of_lt_two_pow (he : e < 2 ^ k) (hpos : e ≠ 0) : ∃ j, k = j + 1 :=
  Nat.exists_eq_succ_of_ne_zero (by rintro rfl; omega)

/-- With a round for each bit of the exponent, the model's loop ends as the while loop does. -/
theorem powLoop_eq_powEnding (h : PowLoop acc b e r) (he : e < 2 ^ k) : powLoop k acc b e = powEnding r := by
  induction h generalizing k with
  | done acc b => cases k <;> rfl
  | accOverflows acc b e hodd hout =>
    have hpos : e ≠ 0 := by omega
    obtain ⟨j, rfl⟩ := exists_succ_of_lt_two_pow he hpos
    simp [powLoop, powEnding, hpos, hodd, mul64_error hout]
  | last acc b hfits =>
    obtain ⟨j, rfl⟩ := exists_succ_of_lt_two_pow he one_ne_zero
    simp [powLoop, powEnding, mul64_ok hfits]
  | squareOverflows acc b e hmore hacc hout =>
    have hpos : e ≠ 0 := by omega
    obtain ⟨j, rfl⟩ := exists_succ_of_lt_two_pow he hpos
    obtain heven | hodd := Nat.mod_two_eq_zero_or_one e
    · simp [powLoop, powEnding, hpos, heven, hmore, mul64_error hout]
    · simp [powLoop, powEnding, hpos, hodd, hmore, mul64_ok (hacc hodd), mul64_error hout]
  | even acc b e r heven hmore hfits _ ih =>
    have hpos : e ≠ 0 := by omega
    obtain ⟨j, rfl⟩ := exists_succ_of_lt_two_pow he hpos
    rw [← ih (k := j) (by omega)]
    simp [powLoop, hpos, heven, hmore, mul64_ok hfits]
  | odd acc b e r hodd hmore hacc hfits _ ih =>
    have hpos : e ≠ 0 := by omega
    obtain ⟨j, rfl⟩ := exists_succ_of_lt_two_pow he hpos
    rw [← ih (k := j) (by omega)]
    simp [powLoop, hpos, hodd, hmore, mul64_ok hacc, mul64_ok hfits]

theorem powRule_eq_powEnding (hn : n < 2 ^ 256) (h : PowLoop (2 ^ 64) x n.toNat r) : powRule x n = powEnding r :=
  powLoop_eq_powEnding h (by omega)

theorem exec_pow (sa sb : Src) (s : State) :
    exec (.pow sa sb) s = .next (s.finish (powRule (signed128 (srcA s sa)) (srcB s sb).toNat)) := by
  rw [← operandA_eq_srcA, ← operandB_eq_srcB, ← readAs_fixed]; rfl

/-- Settles O49: the while loop ends (`exists_powLoop`), and a uint256 exponent has no more bits than the model's loop has
rounds (`powRule_eq_powEnding`). -/
theorem powRunsTheSquareAndMultiplyLoop : Obligations.PowRunsTheSquareAndMultiplyLoop := by
  intro sa sb s
  have hexp : ((srcB s sb).toNat : Int) < 2 ^ 256 := mod_cast (srcB s sb).isLt
  refine ⟨word_of_fields (i := .pow sa sb) rfl rfl rfl, exists_powLoop _ _ _, fun v h => ?_, fun h => ?_⟩
  · rw [exec_pow, powRule_eq_powEnding hexp h]; rfl
  · rw [exec_pow, powRule_eq_powEnding hexp h]; rfl

/-! ### The laws -/

/-- The accumulator's first product, with ONE, is exact. -/
theorem truncDiv_one_mul (x : Int) : truncDiv (2 ^ 64 * x) (2 ^ 64) = x := by
  rw [← tdiv_eq_truncDiv, tdiv, Int.mul_tdiv_cancel_left x (by decide)]

theorem powLoop_exponent_one (hx : Fits x) : PowLoop (2 ^ 64) x 1 (some x) := by
  have h := PowLoop.last (2 ^ 64) x ((truncDiv_one_mul x).symm ▸ hx)
  rwa [truncDiv_one_mul] at h

/-- Squaring is one MUL: the product with ONE that follows is exact (R190). -/
theorem powRule_two (x : Int) : powRule x 2 = mulRule x x := by
  have hend {r : Option Int} : PowLoop (2 ^ 64) x 2 r → powRule x 2 = powEnding r :=
    powRule_eq_powEnding (n := 2) (by decide)
  by_cases hsq : Fits (truncDiv (x * x) (2 ^ 64))
  · exact (hend (.even _ _ 2 _ rfl (by decide) hsq (powLoop_exponent_one hsq))).trans (mul64_ok hsq).symm
  · exact (hend (.squareOverflows _ _ 2 (by decide) nofun hsq)).trans (mul64_error hsq).symm

/-- Magnitudes of at most ONE have a product of magnitude at most ONE (R190). -/
theorem abs_truncDiv_mul_le (hp : |p| ≤ 2 ^ 64) (hq : |q| ≤ 2 ^ 64) : |truncDiv (p * q) (2 ^ 64)| ≤ 2 ^ 64 := by
  have hpq : |p * q| ≤ 2 ^ 64 * 2 ^ 64 := abs_mul p q ▸ mul_le_mul hp hq (abs_nonneg q) (by decide)
  obtain ⟨hlow, hhigh⟩ := abs_le.1 hpq
  rw [← tdiv_eq_truncDiv]
  exact abs_le.2 (tdiv_bounds (by omega) hhigh)

theorem fits_of_abs_le_one (h : |x| ≤ 2 ^ 64) : Fits x := by
  rw [abs_le] at h
  unfold Fits
  omega

/-- From magnitudes of at most ONE the loop never overflows, and ends with a magnitude of at most ONE (R190). -/
theorem powLoop_abs_le_one (h : PowLoop acc b e r) (hacc : |acc| ≤ 2 ^ 64) (hb : |b| ≤ 2 ^ 64) :
    ∃ v, r = some v ∧ |v| ≤ 2 ^ 64 := by
  induction h with
  | done acc b => exact ⟨_, rfl, hacc⟩
  | accOverflows acc b e hodd hout => exact absurd (fits_of_abs_le_one (abs_truncDiv_mul_le hacc hb)) hout
  | last acc b hfits => exact ⟨_, rfl, abs_truncDiv_mul_le hacc hb⟩
  | squareOverflows acc b e hmore hfits hout => exact absurd (fits_of_abs_le_one (abs_truncDiv_mul_le hb hb)) hout
  | even acc b e r heven hmore hfits _ ih => exact ih hacc (abs_truncDiv_mul_le hb hb)
  | odd acc b e r hodd hmore hfitsAcc hfits _ ih => exact ih (abs_truncDiv_mul_le hacc hb) (abs_truncDiv_mul_le hb hb)

/-- On the buses, POW with exponent 2 is the rule of MUL with both operands alike. -/
theorem ruleOf_pow_two (x : Int) :
    ruleOf (.pow .bus .bus) x (reading (some .uint256) (BitVec.ofInt 256 2)) = mulRule x x := by
  rw [reading_ofInt (ty := some .uint256) ⟨by decide, by decide⟩ (Option.some_ne_none _), ← powRule_two]; rfl

/-- Settles O57: each law is a run of the while loop. -/
theorem powLaws : Obligations.PowLaws := by
  intro s
  refine ⟨fun x hx => ⟨?_, ?_⟩, fun x v c => ⟨?_, ?_⟩, fun x n hx hn hlt => ?_⟩
  · have hzero : powRule x 0 = .ok (2 ^ 64) := powRule_eq_powEnding (n := 0) (by decide) (.done _ _)
    exact gives_of_ruleOf (i := .pow .bus .bus) rfl rfl hx ⟨by decide, by decide⟩ (congrArg some hzero)
  · have hone : powRule x 1 = .ok x := powRule_eq_powEnding (n := 1) (by decide) (powLoop_exponent_one hx)
    exact gives_of_ruleOf (i := .pow .bus .bus) rfl rfl hx ⟨by decide, by decide⟩ (congrArg some hone)
  · exact (gives_iff rfl rfl (ruleOf_pow_two _)).trans (gives_iff rfl rfl rfl).symm
  · exact (fails_iff rfl rfl (ruleOf_pow_two _)).trans (fails_iff rfl rfl rfl).symm
  · obtain ⟨r, hr⟩ := exists_powLoop (2 ^ 64) x n.toNat
    obtain ⟨v, rfl, hv⟩ := powLoop_abs_le_one hr (by decide) hx
    exact ⟨v, hv, gives_of_ruleOf (i := .pow .bus .bus) rfl rfl (fits_of_abs_le_one hx) ⟨hn, by omega⟩
      (congrArg some (powRule_eq_powEnding hlt hr))⟩

end Sys2Proof.Safety
end

section
/-! PROOFS. The logarithm of R183: the model's loop in the terms of the claims' recurrence, one iteration at a time; its bounds,
and that it does not decrease. -/

namespace Sys2Proof.Safety

open Sys2Proof.Machine

variable {x x' m m' msb k : Nat} {r : Int}

/-! ### One iteration -/

theorem squared_lt (hm : m < 2 ^ 128) : squared m < 2 ^ 128 := by
  have hsq : m * m < 2 ^ 128 * 2 ^ 128 := Nat.mul_lt_mul'' hm hm
  unfold squared
  split_ifs <;> omega

/-- An iteration emits a bit when the square reaches `2^255`, and goes on with the square. -/
theorem log2Loop_succ (hm : m < 2 ^ 128) (i : Nat) (r : Int) :
    log2Loop (i + 1) m r = log2Loop i (squared m) (r + if 2 ^ 255 ≤ m * m then 2 ^ i else 0) := by
  have hsq : m * m < 2 ^ 128 * 2 ^ 128 := Nat.mul_lt_mul'' hm hm
  rw [log2Loop, squared]
  split_ifs with hbit
  · have hone : (m * m) >>> 255 = 1 := by rw [Nat.shiftRight_eq_div_pow]; omega
    rw [hone, Nat.shiftRight_eq_div_pow, Nat.one_shiftLeft, Nat.cast_pow, Nat.cast_ofNat]
  · have hzero : (m * m) >>> 255 = 0 := by rw [Nat.shiftRight_eq_div_pow]; omega
    rw [hzero, Nat.shiftRight_eq_div_pow, Nat.zero_shiftLeft, Nat.cast_zero]

/-! ### All iterations -/

/-- The loop from the mantissa after `k` iterations on adds the bits that the iterations left emit. -/
theorem log2Loop_mantissa (hm : mantissa x msb k < 2 ^ 128) (i : Nat) (r : Int) :
    log2Loop i (mantissa x msb k) r = r + ((∑ j ∈ Finset.range i, log2Bit x msb (k + j) * 2 ^ (i - 1 - j) : Nat) : Int) := by
  induction i generalizing k r with
  | zero => simp [log2Loop]
  | succ i ih =>
    have hrest : ∑ j ∈ Finset.range i, log2Bit x msb (k + (j + 1)) * 2 ^ (i - (j + 1)) =
        ∑ j ∈ Finset.range i, log2Bit x msb (k + 1 + j) * 2 ^ (i - 1 - j) :=
      Finset.sum_congr rfl fun j _ => by rw [add_comm j 1, ← add_assoc, Nat.sub_sub]
    have hbit : (if 2 ^ 255 ≤ mantissa x msb k * mantissa x msb k then 2 ^ i else 0 : Int) =
        ((log2Bit x msb k * 2 ^ i : Nat) : Int) := by
      unfold log2Bit
      split_ifs <;> simp
    have hnext : mantissa x msb (k + 1) = squared (mantissa x msb k) := rfl
    rw [log2Loop_succ hm, hbit, ← hnext, ih (k := k + 1) (squared_lt hm), Finset.sum_range_succ', Nat.add_sub_cancel, hrest,
      Nat.add_zero k, Nat.sub_zero, Nat.cast_add]
    ring

section
variable (hhigh : x < 2 ^ (msb + 1)) (hmsb : msb ≤ 127)
include hhigh hmsb

/-- The first mantissa is the operand with its most significant bit moved to bit 127. -/
theorem mantissa_zero_lt : mantissa x msb 0 < 2 ^ 128 := by
  calc x * 2 ^ (127 - msb) < 2 ^ (msb + 1) * 2 ^ (127 - msb) := Nat.mul_lt_mul_of_pos_right hhigh (by positivity)
    _ = 2 ^ 128 := by rw [← pow_add]; congr 1; omega

theorem log2Value_eq_log2Loop : log2Value x msb = log2Loop 64 (mantissa x msb 0) (((msb : Int) - 64) * 2 ^ 64) := by
  rw [log2Loop_mantissa (mantissa_zero_lt hhigh hmsb)]
  unfold log2Value
  simp only [Nat.zero_add, Nat.reduceSub]

/-- The bits after the point keep the logarithm below the next integer. -/
theorem log2Value_bounds :
    ((msb : Int) - 64) * 2 ^ 64 ≤ log2Value x msb ∧ log2Value x msb < ((msb : Int) - 63) * 2 ^ 64 := by
  have h := log2Loop_bounds (k := 64) (r := ((msb : Int) - 64) * 2 ^ 64) (mantissa_zero_lt hhigh hmsb)
  rw [← log2Value_eq_log2Loop hhigh hmsb] at h
  omega

theorem log2core_eq_log2Value (hlow : 2 ^ msb ≤ x) : log2core x = log2Value x msb := by
  have hpos : x ≠ 0 := ((Nat.two_pow_pos msb).trans_le hlow).ne'
  have hlen : bitlen x - 1 = msb := (Nat.log2_eq_iff hpos).2 ⟨hlow, hhigh⟩
  rw [log2core, hlen, log2Value_eq_log2Loop hhigh hmsb, mantissa, Nat.shiftLeft_eq, shl]

end

theorem msb_le (hx : x < 2 ^ 127) (hlow : 2 ^ msb ≤ x) : msb ≤ 126 :=
  Nat.lt_succ_iff.1 ((Nat.pow_lt_pow_iff_right (by decide)).1 (hlow.trans_lt hx))

/-- A positive 64.64 value has a most significant bit, and the logarithm of R183 with it lies in `[-64.ONE, 63.ONE)`. -/
theorem exists_log2Value {x : Int} (hfits : Fits x) (hpos : 0 < x) : ∃ msb : Nat, 2 ^ msb ≤ x ∧ x < 2 ^ (msb + 1) ∧
    -64 * 2 ^ 64 ≤ log2Value x.toNat msb ∧ log2Value x.toNat msb < 63 * 2 ^ 64 ∧ log2core x.toNat = log2Value x.toNat msb := by
  obtain ⟨-, hmax⟩ := hfits
  have hne : x.toNat ≠ 0 := by omega
  have hlow : 2 ^ x.toNat.log2 ≤ x.toNat := Nat.log2_self_le hne
  have hhigh : x.toNat < 2 ^ (x.toNat.log2 + 1) := Nat.lt_log2_self
  have hmsb := msb_le (by omega) hlow
  have hbounds := log2Value_bounds hhigh (by omega)
  refine ⟨x.toNat.log2, ?_, ?_, by omega, by omega, log2core_eq_log2Value hhigh (by omega) hlow⟩
  · exact_mod_cast (Int.le_toNat hpos.le).1 (mod_cast hlow)
  · exact_mod_cast (Int.toNat_lt hpos.le).1 hhigh

/-! ### The logarithm does not decrease (R190) -/

/-- The emitted bits do not decrease with the mantissa: at the first bit that differs, the larger mantissa has the 1. -/
theorem log2Loop_mono (i : Nat) (r : Int) (hle : m ≤ m') (hm' : m' < 2 ^ 128) : log2Loop i m r ≤ log2Loop i m' r := by
  induction i generalizing m m' r with
  | zero => exact le_rfl
  | succ i ih =>
    have hm : m < 2 ^ 128 := hle.trans_lt hm'
    have hsq : m * m ≤ m' * m' := Nat.mul_le_mul hle hle
    have hsame (h : 2 ^ 255 ≤ m * m ↔ 2 ^ 255 ≤ m' * m') : squared m ≤ squared m' := by
      unfold squared
      split_ifs <;> omega
    rw [log2Loop_succ hm, log2Loop_succ hm']
    by_cases hbit : 2 ^ 255 ≤ m * m
    · have hbit' := hbit.trans hsq
      rw [if_pos hbit, if_pos hbit']
      exact ih _ (hsame (iff_of_true hbit hbit')) (squared_lt hm')
    · by_cases hbit' : 2 ^ 255 ≤ m' * m'
      · rw [if_neg hbit, if_pos hbit', add_zero]
        exact (log2Loop_bounds (squared_lt hm)).2.le.trans (log2Loop_bounds (squared_lt hm')).1
      · rw [if_neg hbit, if_neg hbit']
        exact ih _ (hsame (iff_of_false hbit hbit')) (squared_lt hm')

theorem log2core_mono (hpos : 0 < x) (hle : x ≤ x') (hx' : x' < 2 ^ 127) : log2core x ≤ log2core x' := by
  have hlow : 2 ^ x.log2 ≤ x := Nat.log2_self_le hpos.ne'
  have hlow' : 2 ^ x'.log2 ≤ x' := Nat.log2_self_le (by omega)
  have hhigh : x < 2 ^ (x.log2 + 1) := Nat.lt_log2_self
  have hhigh' : x' < 2 ^ (x'.log2 + 1) := Nat.lt_log2_self
  have hmsb : x'.log2 ≤ 127 := (msb_le hx' hlow').trans (by decide)
  have hmsble : x.log2 ≤ x'.log2 :=
    Nat.lt_succ_iff.1 ((Nat.pow_lt_pow_iff_right (by decide)).1 (hlow.trans_lt (hle.trans_lt hhigh')))
  rw [log2core_eq_log2Value hhigh (hmsble.trans hmsb) hlow, log2core_eq_log2Value hhigh' hmsb hlow']
  obtain hlt | heq := hmsble.lt_or_eq
  · have hbound := (log2Value_bounds hhigh (hmsble.trans hmsb)).2
    have hbound' := (log2Value_bounds hhigh' hmsb).1
    omega
  · rw [← heq] at hhigh' ⊢
    rw [log2Value_eq_log2Loop hhigh (heq ▸ hmsb), log2Value_eq_log2Loop hhigh' (heq ▸ hmsb)]
    exact log2Loop_mono _ _ (Nat.mul_le_mul_right _ hle) (mantissa_zero_lt hhigh' (heq ▸ hmsb))

/-! ### The logarithm of a power of two (R190) -/

/-- The mantissa of a power of two is `2^127` throughout, and its square emits no bit. -/
theorem log2Loop_two_pow (i : Nat) (r : Int) : log2Loop i (2 ^ 127) r = r := by
  induction i with
  | zero => rfl
  | succ i ih =>
    have hfix : squared (2 ^ 127) = 2 ^ 127 := by decide
    rw [log2Loop_succ (by decide), hfix, if_neg (by decide), add_zero, ih]

theorem log2core_two_pow {n : Nat} (h : n ≤ 126) : log2core (2 ^ n) = ((n : Int) - 64) * 2 ^ 64 := by
  have hhigh : 2 ^ n < 2 ^ (n + 1) := Nat.pow_lt_pow_succ (by decide)
  have hm : mantissa (2 ^ n) n 0 = 2 ^ 127 := by
    rw [mantissa, ← pow_add]
    congr 1
    omega
  rw [log2core_eq_log2Value hhigh (by omega) le_rfl, log2Value_eq_log2Loop hhigh (by omega), hm, log2Loop_two_pow]

end Sys2Proof.Safety
end

section
/-! PROOFS. LOG2 and LN (R184, R185): each command ends as its rule says of the integer that operand A denotes. -/

namespace Sys2Proof.Safety

open Sys2Proof.Machine

section
variable (sa : Src) (s : State)

theorem exec_log2 : exec (.log2 sa) s = .next (s.finish (log2Rule (signed128 (srcA s sa)))) := by
  rw [← operandA_eq_srcA, ← readAs_fixed]; rfl

theorem exec_ln : exec (.ln sa) s = .next (s.finish (lnRule (signed128 (srcA s sa)))) := by
  rw [← operandA_eq_srcA, ← readAs_fixed]; rfl

end

variable {x : Int}

theorem log2Rule_error (h : x ≤ 0) : log2Rule x = .error .domainError := if_pos h

theorem log2Rule_ok (h : 0 < x) : log2Rule x = .ok (log2core x.toNat) := if_neg (not_le.2 h)

theorem lnRule_error (h : x ≤ 0) : lnRule x = .error .domainError := if_pos h

theorem lnRule_ok (h : 0 < x) : lnRule x = .ok (truncDiv (log2core x.toNat * 12786308645202655659) (2 ^ 64)) :=
  (if_neg (not_le.2 h)).trans (congrArg _ (tdiv_eq_truncDiv _ _))

/-- Settles O51: the two branches of `log2Rule`, and the core is the recurrence (`exists_log2Value`). -/
theorem log2IsTheBitRecurrence : Obligations.Log2IsTheBitRecurrence := by
  intro sa s
  refine ⟨word_of_fields (i := .log2 sa) rfl rfl rfl, fun h => ?_, fun h => ?_⟩
  · rw [exec_log2, log2Rule_error h]; rfl
  · obtain ⟨msb, hlow, hhigh, hmin, hmax, hcore⟩ := exists_log2Value (fits_signed128 _) h
    refine ⟨msb, hlow, hhigh, hmin, hmax, ?_⟩
    rw [exec_log2, log2Rule_ok h, hcore]; rfl

/-- Settles O52: the two branches of `lnRule`; the bounds are those of the logarithm (`exists_log2Value`), times LN2_64x64. -/
theorem lnIsLog2TimesLn2 : Obligations.LnIsLog2TimesLn2 := by
  intro sa s
  refine ⟨word_of_fields (i := .ln sa) rfl rfl rfl, fun h => ?_, fun h => ?_⟩
  · rw [exec_ln, lnRule_error h]; rfl
  · obtain ⟨msb, hlow, hhigh, hmin, hmax, hcore⟩ := exists_log2Value (fits_signed128 _) h
    have hbounds := tdiv_bounds (a := log2Value (signed128 (srcA s sa)).toNat msb * 12786308645202655659)
      (lo := -(64 * 12786308645202655659)) (hi := 64 * 12786308645202655659) (by omega) (by omega)
    rw [tdiv_eq_truncDiv] at hbounds
    refine ⟨msb, hlow, hhigh, ?_, abs_le.2 hbounds, ?_⟩
    · unfold Fits
      omega
    · rw [exec_ln, lnRule_ok h, hcore]; rfl

end Sys2Proof.Safety
end

section
/-! PROOFS. The exponential of R186 with the default table of R187 (assumption 5): the model's steps in the terms of the claims'
register, and the range of its value. -/

namespace Sys2Proof.Safety

open Sys2Proof.Machine

variable {x : Int} {frac j k : Nat}

/-! ### The table -/

theorem exp2Table_eq_exp2Entry (k : Nat) : exp2Table k = exp2Entry k :=
  congrArg (List.getD · (k - 1) 0) (show exp2Multipliers = exp2Entries by decide +kernel)

/-- The entries are powers of 2 with exponents from 0 to 1, in 128 fractional bits. -/
theorem exp2Entry_bounds : ∀ k ≤ 64, 1 ≤ k → 2 ^ 128 < exp2Entry k ∧ exp2Entry k < 2 ^ 129 := by
  decide +kernel

theorem exp2Entry_one_sq : exp2Entry 1 ^ 2 ≤ 2 ^ 257 ∧ 2 ^ 257 < (exp2Entry 1 + 1) ^ 2 := by
  decide +kernel

/-- Each entry is the root of the one before, to within a unit. -/
theorem exp2Entry_succ_sq : ∀ k ≤ 63, 1 ≤ k → exp2Entry (k + 1) ^ 2 < (exp2Entry k + 1) * 2 ^ 128 ∧
    exp2Entry k * 2 ^ 128 < (exp2Entry (k + 1) + 1) ^ 2 := by
  decide +kernel

/-! ### The register -/

/-- The steps left after `64 - j` of them lead to the last register. -/
theorem exp2Steps_exp2Register (hj : j ≤ 64) :
    exp2Steps exp2Table frac j (exp2Register frac (64 - j)) = exp2Register frac 64 := by
  induction j with
  | zero => rfl
  | succ j ih =>
    have hstep : 64 - j = 64 - (j + 1) + 1 := by omega
    have hbit : 63 - (64 - (j + 1)) = j := by omega
    rw [← ih (by omega), exp2Steps, hstep, exp2Register, hbit, exp2Table_eq_exp2Entry, Nat.shiftRight_eq_div_pow,
      Nat.testBit_eq_decide_div_mod_eq]
    simp only [decide_eq_true_eq]

/-- A multiplication by an entry does not lower the register. -/
theorem le_mul_exp2Entry (hk : k < 64) (r : Nat) : r ≤ r * exp2Entry (k + 1) / 2 ^ 128 :=
  (Nat.le_div_iff_mul_le (by positivity)).2 (Nat.mul_le_mul_left r (exp2Entry_bounds (k + 1) hk (Nat.succ_pos k)).1.le)

theorem le_exp2Register (hk : k ≤ 64) : 2 ^ 127 ≤ exp2Register frac k := by
  induction k with
  | zero => exact le_rfl
  | succ k ih =>
    rw [exp2Register]
    split_ifs
    · exact (ih (by omega)).trans (le_mul_exp2Entry hk _)
    · exact ih (by omega)

/-- The register is largest where every fractional bit is 1. -/
theorem exp2Register_le_all_ones (hk : k ≤ 64) : exp2Register frac k ≤ exp2Register (2 ^ 64 - 1) k := by
  induction k with
  | zero => exact le_rfl
  | succ k ih =>
    have hone : (2 ^ 64 - 1) / 2 ^ (63 - k) % 2 = 1 := by
      simpa [Nat.testBit_eq_decide_div_mod_eq, show 63 - k < 64 by omega] using Nat.testBit_two_pow_sub_one 64 (63 - k)
    rw [exp2Register, exp2Register, if_pos hone]
    split_ifs
    · exact Nat.div_le_div_right (Nat.mul_le_mul_right _ (ih (by omega)))
    · exact (ih (by omega)).trans (le_mul_exp2Entry hk _)

theorem exp2Register_lt : exp2Register frac 64 < 2 ^ 128 :=
  (exp2Register_le_all_ones le_rfl).trans_lt (by decide +kernel)

/-- Without fractional bits no step multiplies. -/
theorem exp2Register_zero (k : Nat) : exp2Register 0 k = 2 ^ 127 := by
  induction k with
  | zero => rfl
  | succ k ih => rw [exp2Register, Nat.zero_div, if_neg (by decide), ih]

/-! ### The value -/

/-- Between `-64.ONE` and `64.ONE` the core is the range check of its value. -/
theorem exp2core_eq_narrow (hlow : -64 * 2 ^ 64 ≤ x) (hhigh : x < 64 * 2 ^ 64) : exp2core exp2Table x = narrow (exp2Value x) := by
  have hsteps := exp2Steps_exp2Register (frac := (x % 2 ^ 64).toNat) (le_refl 64)
  have hover : ¬ 64 * fxOne ≤ x := not_le.2 hhigh
  have hunder : ¬ x < -64 * fxOne := not_lt.2 hlow
  rw [exp2core, if_neg hover, if_neg hunder]
  simp only [sar_eq_ediv, Nat.shiftRight_eq_div_pow]
  rw [exp2Value, ← hsteps]
  rfl

/-- The register is in `[2^127, 2^128)`: its shift is a 64.64 value when it drops a bit at least. -/
theorem fits_exp2Value_iff (hhigh : x < 64 * 2 ^ 64) : Fits (exp2Value x) ↔ x < 63 * 2 ^ 64 := by
  have hlow := le_exp2Register (frac := (x % 2 ^ 64).toNat) (le_refl 64)
  have hlt := exp2Register_lt (frac := (x % 2 ^ 64).toNat)
  unfold exp2Value Fits
  generalize exp2Register (x % 2 ^ 64).toNat 64 = r at *
  by_cases hx : x < 63 * 2 ^ 64
  · obtain ⟨n, hn⟩ : ∃ n, (63 - x / 2 ^ 64).toNat = n + 1 := Nat.exists_eq_succ_of_ne_zero (by omega)
    have hdrop : r / 2 ^ (n + 1) ≤ r / 2 := Nat.div_le_div_left (Nat.le_self_pow n.succ_ne_zero 2) (by decide)
    rw [hn]
    generalize r / 2 ^ (n + 1) = q at *
    omega
  · have hn : (63 - x / 2 ^ 64).toNat = 0 := by omega
    rw [hn, pow_zero, Nat.div_one]
    omega

theorem exp2core_ok (hlow : -64 * 2 ^ 64 ≤ x) (hhigh : x < 63 * 2 ^ 64) : exp2core exp2Table x = .ok (exp2Value x) := by
  have hover : x < 64 * 2 ^ 64 := by omega
  rw [exp2core_eq_narrow hlow hover, narrow_ok ((fits_exp2Value_iff hover).2 hhigh)]

theorem exp2core_underflow (h : x < -64 * 2 ^ 64) : exp2core exp2Table x = .ok 0 := by
  have hover : ¬ 64 * fxOne ≤ x := by unfold fxOne; omega
  exact (if_neg hover).trans (if_pos h)

theorem exp2core_overflow (h : 63 * 2 ^ 64 ≤ x) : exp2core exp2Table x = .error .overflowError := by
  by_cases hover : x < 64 * 2 ^ 64
  · rw [exp2core_eq_narrow (by omega) hover, narrow_error ((fits_exp2Value_iff hover).not.2 (not_lt.2 h))]
  · exact if_pos (not_lt.1 hover)

/-- The expansion is exact at the integers (R190). -/
theorem exp2Value_integer {n : Nat} (h : n ≤ 126) : exp2Value (((n : Int) - 64) * 2 ^ 64) = 2 ^ n := by
  have hfrac : (((n : Int) - 64) * 2 ^ 64 % 2 ^ 64).toNat = 0 := by omega
  have hshift : (63 - ((n : Int) - 64) * 2 ^ 64 / 2 ^ 64).toNat = 127 - n := by omega
  rw [exp2Value, hfrac, hshift, exp2Register_zero, Nat.pow_div (by omega) (by decide), show 127 - (127 - n) = n by omega,
    Nat.cast_pow, Nat.cast_ofNat]

end Sys2Proof.Safety
end

section
/-! PROOFS. EXP2 and EXP (R188, R189) with the default table: each command ends as its rule says of the integer that operand A
denotes; and the laws of LOG2 and EXP2 (R190). -/

namespace Sys2Proof.Safety

open Sys2Proof.Machine

section
variable (sa : Src) (s : State)

theorem exec_exp2 : exec (.exp2 sa) s = .next (s.finish (exp2core exp2Table (signed128 (srcA s sa)))) := by
  rw [← operandA_eq_srcA, ← readAs_fixed]; rfl

theorem exec_exp : exec (.exp sa) s = .next (s.finish (expRule exp2Table (signed128 (srcA s sa)))) := by
  rw [← operandA_eq_srcA, ← readAs_fixed]; rfl

end

/-- Settles O53: the table by its entries, and the three endings of the core. -/
theorem exp2IsTheTableExpansion : Obligations.Exp2IsTheTableExpansion := by
  refine ⟨fun k hpos hk => ⟨exp2Table_eq_exp2Entry k, exp2Entry_bounds k hk hpos⟩, exp2Entry_one_sq,
    fun k hpos hk => exp2Entry_succ_sq k hk hpos, fun sa s => ⟨word_of_fields (i := .exp2 sa) rfl rfl rfl,
    fun h => ?_, fun h => ?_, fun hlow hhigh => ⟨(fits_exp2Value_iff (by omega)).2 hhigh, ?_⟩⟩⟩
  · rw [exec_exp2, exp2core_overflow h]; rfl
  · rw [exec_exp2, exp2core_underflow h]; rfl
  · rw [exec_exp2, exp2core_ok hlow hhigh]; rfl

variable {x : Int}

/-- From `-64.ONE` on, EXP is the core at the operand times LOG2E_64x64, unless the operand is too large already. -/
theorem expRule_eq_exp2core (hlow : -64 * 2 ^ 64 ≤ x) (hhigh : x < 64 * 2 ^ 64) :
    expRule exp2Table x = exp2core exp2Table (truncDiv (x * 26613026195688644983) (2 ^ 64)) := by
  have hover : ¬ 64 * fxOne ≤ x := not_le.2 hhigh
  have hunder : ¬ x < -64 * fxOne := not_lt.2 hlow
  rw [expRule, if_neg hover, if_neg hunder, tdiv_eq_truncDiv, fxLog2e]

theorem expRule_underflow (h : x < -64 * 2 ^ 64) : expRule exp2Table x = .ok 0 := by
  have hover : ¬ 64 * fxOne ≤ x := by unfold fxOne; omega
  exact (if_neg hover).trans (if_pos h)

/-- The least operand whose product with LOG2E_64x64 reaches `63.ONE` (R189). -/
theorem le_truncDiv_log2e_iff :
    63 * 2 ^ 64 ≤ truncDiv (x * 26613026195688644983) (2 ^ 64) ↔ 805537444647767306582 ≤ x := by
  rw [← tdiv_eq_truncDiv, tdiv, Int.tdiv_eq_ediv, show Int.sign (2 ^ 64) = 1 from rfl]
  split_ifs <;> omega

theorem expRule_overflow (h : 805537444647767306582 ≤ x) : expRule exp2Table x = .error .overflowError := by
  by_cases hover : x < 64 * 2 ^ 64
  · rw [expRule_eq_exp2core (by omega) hover, exp2core_overflow (le_truncDiv_log2e_iff.2 h)]
  · exact if_pos (not_lt.1 hover)

/-- Settles O54: the branches of `expRule`, and the bound at which the reduced operand overflows (`le_truncDiv_log2e_iff`). -/
theorem expReducesToExp2 : Obligations.ExpReducesToExp2 := by
  intro sa s
  refine ⟨word_of_fields (i := .exp sa) rfl rfl rfl, fun h => ?_, fun h => ?_, fun hlow hhigh => ⟨fun ht => ?_, fun ht => ?_⟩⟩
  · rw [exec_exp, expRule_overflow h]; rfl
  · rw [exec_exp, expRule_underflow h]; rfl
  · rw [exec_exp, expRule_eq_exp2core hlow (by omega), exp2core_underflow ht]; rfl
  · have hmax := not_le.1 (le_truncDiv_log2e_iff.not.2 (not_le.2 (Int.lt_add_one_of_le hhigh)))
    rw [exec_exp, expRule_eq_exp2core hlow (by omega), exp2core_ok ht hmax]; rfl

/-- What LOG2 gives of a positive 64.64 value is its logarithm (R184). -/
theorem log2core_of_gives_log2 {s : State} {y v : Int} (hx : Fits x) (hpos : 0 < x) (hv : Fits v)
    (h : Gives (.log2 .bus) s x y v) : log2core x.toNat = v := by
  obtain ⟨w, hw, hwv⟩ := eq_ok_of_gives (i := .log2 .bus) rfl rfl hx trivial rfl h
  obtain rfl := Except.ok.inj ((log2Rule_ok hpos).symm.trans hw)
  exact eq_of_ofInt_eq (fits_of_log2Rule hx (log2Rule_ok hpos)) hv hwv

/-- Settles O56: the laws of the rules (`log2core_two_pow`, `exp2Value_integer`, `log2core_mono`), on what the buses carry. -/
theorem logAndExpLaws : Obligations.LogAndExpLaws := by
  intro s y
  refine ⟨fun n hn => ?_, fun n hn => ?_, fun x x' v v' hpos hle hx' hv hv' hgives hgives' => ?_⟩
  · have hpow : (2 : Int) ^ n ≤ 2 ^ 126 := pow_le_pow_right₀ (by decide) hn
    have hpos : (0 : Int) < 2 ^ n := by positivity
    have hlog : log2Rule (2 ^ n) = .ok (((n : Int) - 64) * 2 ^ 64) := by
      rw [log2Rule_ok hpos, ← log2core_two_pow hn]; norm_cast
    exact gives_of_ruleOf (i := .log2 .bus) rfl rfl ⟨by omega, by omega⟩ trivial (congrArg some hlog)
  · have hexp : exp2Rule exp2Table (((n : Int) - 64) * 2 ^ 64) = .ok (2 ^ n) :=
      (exp2core_ok (by omega) (by omega)).trans (congrArg _ (exp2Value_integer hn))
    exact gives_of_ruleOf (i := .exp2 .bus) rfl rfl ⟨by omega, by omega⟩ trivial (congrArg some hexp)
  · have hx : Fits x := ⟨by omega, hle.trans hx'.2⟩
    have hmax := hx'.2
    rw [← log2core_of_gives_log2 hx hpos hv hgives, ← log2core_of_gives_log2 hx' (hpos.trans_le hle) hv' hgives']
    exact log2core_mono (by omega) (Int.toNat_le_toNat hle) (by omega)

end Sys2Proof.Safety
end

section
/-! PROOFS. The control commands (R220 to R223): which words they have, what they commit, and that CLRST alone clears STICKY. -/

namespace Sys2Proof

/-- The word of a command, well-formed or not, decodes as its fields do (R84). -/
theorem decode_encode_eq_decodeOp (i : Instr) : decode (encode i) = decodeOp i.row.op i.saBit i.sbBit i.immByte := by
  rw [decode, encode, rsvField_wordOf, if_neg (not_not.2 rfl), opField_wordOf, saField_wordOf, sbField_wordOf,
    immField_wordOf, BitVec.toNat_ofNat, Nat.mod_eq_of_lt (op_lt (row_mem_opcodeMap i))]

/-- The word of LDC as the sum of its fields (R84), for every index. -/
theorem encode_ldc (k : BitVec 8) : encode (.ldc k) = BitVec.ofNat 32 (0x31 + k.toNat * 2 ^ 8) := by
  have hsum : (encode (.ldc k)).toNat = 0x31 + k.toNat * 2 ^ 8 := wordOf_toNat 0x31#6 0#1 0#1 k
  rw [← hsum, BitVec.ofNat_toNat, BitVec.setWidth_eq]

/-- An index above 4 makes the word of LDC illegal (R77, R222). -/
theorem decode_encode_ldc_of_lt {k : BitVec 8} (h : 4 < k.toNat) : decode (encode (.ldc k)) = .error .romIndex :=
  (decode_encode_eq_decodeOp (.ldc k)).trans (if_pos h)

/-- A word that the decoder rejects is not legal. -/
theorem not_legal_of_decode_eq_error {w : CmdWord} {e : Illegal} (h : decode w = .error e) : legal w = false := by
  rw [Bool.eq_false_iff, ne_eq, legal_iff_decodes]
  rintro ⟨i, hi⟩
  cases h.symm.trans hi

end Sys2Proof

namespace Sys2Proof.Safety

open Sys2Proof.Machine

/-- Of the endings of a command (R47), only CLRST's clears STICKY (R40, R223). -/
theorem eq_clrst_of_exec_clears_sticky {i : Instr} {s t : State} (h : exec i s = .next t) (hs : s.sticky = true)
    (ht : t.sticky = false) : i = .clrst := by
  obtain ⟨u, hu, hending⟩ := exec_ending i s
  obtain rfl : u = t := Host.Outcome.next.inj (hu.symm.trans h)
  obtain ⟨v, rfl⟩ | ⟨e, rfl⟩ | rfl | ⟨hi, -⟩ := hending
  · simp [hs] at ht
  · simp at ht
  · simp [hs] at ht
  · exact hi

/-- Settles O58: the one word of each by `decode_eq_ok_iff`, STICKY by `eq_clrst_of_exec_clears_sticky` and `step_eq_reset`. -/
theorem nopAndClrstKeepRes : Obligations.NopAndClrstKeepRes := fun _ =>
  ⟨fun _ => decode_eq_ok_iff.trans (and_iff_left rfl), fun _ => decode_eq_ok_iff.trans (and_iff_left rfl), rfl, rfl,
    fun _ _ => eq_clrst_of_exec_clears_sticky, fun hrst => ⟨_, step_eq_reset hrst, rfl⟩⟩

/-- All 256 bits of a bus come back from the integer they denote (R35). -/
theorem ofInt_readAs_uint256 (v : Bus) : BitVec.ofInt 256 (readAs .uint256 v) = v := by
  rw [readAs, BitVec.ofInt_natCast, BitVec.ofNat_toNat, BitVec.setWidth_eq]

/-- MOV commits the integer of all 256 bits of its operand (R221). -/
theorem exec_mov (sa : Src) (s : State) : exec (.mov sa) s = .next (s.commit (readAs .uint256 (srcA s sa))) := by
  rw [← operandA_eq_srcA]; rfl

/-- Settles O59: MOV commits an integer that shows the bits it was read from (`ofInt_readAs_uint256`). -/
theorem movCommitsAllBits : Obligations.MovCommitsAllBits := by
  intro sa s
  refine ⟨word_of_fields (i := .mov sa) rfl rfl rfl, ?_⟩
  rw [exec_mov, State.commit, ofInt_readAs_uint256]
  rfl

/-- LDC commits the ROM entry of its index (R222). -/
theorem exec_ldc {k : BitVec 8} {n : Nat} {v : Int} (s : State) (hk : k.toNat = n) (hv : rom (BitVec.ofNat 8 n) = some v) :
    exec (.ldc k) s = .next (succeeded s v) := by
  have hrom : rom k = some v := by rw [← hv, ← hk, BitVec.ofNat_toNat, BitVec.setWidth_eq]
  exact exec_eq_finish (r := .ok v) (by rw [ruleOf, hrom]; rfl)

/-- Settles O60: the ROM read entry by entry (`exec_ldc`); above index 4 the word of LDC does not decode, and
`execCommand_of_not_legal` says what its `Exec` does. -/
theorem ldcCommitsTheConstant : Obligations.LdcCommitsTheConstant := by
  intro k s
  refine ⟨fun h => word_of_fields (i := .ldc k) (decide_eq_true h) rfl rfl, fun h => exec_ldc s h rfl, fun h => exec_ldc s h rfl,
    fun h => exec_ldc s h rfl, fun h => exec_ldc s h rfl, fun h => exec_ldc s h rfl, fun h => ?_⟩
  have hdecode := decode_encode_ldc_of_lt h
  rw [← encode_ldc]
  exact ⟨hdecode, fun a b => execCommand_of_not_legal (c := ⟨encode (.ldc k), a, b⟩) (not_legal_of_decode_eq_error hdecode) s⟩

end Sys2Proof.Safety
end

section
/-! PROOFS. Errors instead of traps (R245, R249, R259): an illegal word is accepted like any other, and no edge stops. -/

namespace Sys2Proof.Safety

open Sys2Proof.Machine

/-- Settles O18: each of the six kinds of edge (`step_cases`) has a next state. -/
theorem everyStepAnswersANextState : Obligations.EveryStepAnswersANextState :=
  fun s => (step_cases s).imp fun _ h => h.1

/-- `Exec` of a word that does not decode raises IllegalCommand (R47, R245). -/
theorem execWord_eq_raise {s : State} {e : Illegal} (h : decode s.ports.cmd = .error e) :
    s.execWord = .next (s.raise .illegalCommand) := by
  simp only [State.execWord, h]

/-- Settles O9: the edge accepts the word (`step_eq_accept`), latches what `execWord_eq_raise` says, and draws a latency of
at least 1. -/
theorem stepAcceptsAnIllegalWord : Obligations.StepAcceptsAnIllegalWord := fun s _ hp hr hv hd =>
  ⟨_, step_eq_accept hr hp hv (execWord_eq_raise hd), rfl, rfl, raise_outcomeOf s .illegalCommand, (latency_bounds s).1,
    rfl, rfl, rfl, rfl, rfl⟩

end Sys2Proof.Safety
end

section
/-! PROOFS. The errors that a rule can give (R240 to R246): each rule's tests, one after another, against the order table. -/

namespace Sys2Proof.Safety

open Sys2Proof.Machine

/-- A rule's answer reports no error but those of the codes. -/
def ReportsOnly (codes : List ErrCode) (r : Except ErrorKind Int) : Prop := ∀ e, r = .error e → e.code ∈ codes

variable {codes : List ErrCode} {x y n acc b : Int} {d : Nat}

theorem ReportsOnly.ok (v : Int) : ReportsOnly codes (.ok v) := nofun

theorem ReportsOnly.error {e : ErrorKind} (h : e.code ∈ codes) : ReportsOnly codes (.error e) := by
  intro e' he
  cases he
  exact h

/-- A test reports what its branches report. -/
theorem ReportsOnly.ite {c : Prop} [Decidable c] {r r' : Except ErrorKind Int} (ht : ReportsOnly codes r)
    (hf : ReportsOnly codes r') : ReportsOnly codes (if c then r else r') := by
  split_ifs
  · exact ht
  · exact hf

/-- A 64.64 range check reports OverflowError (R242). -/
theorem reportsOnly_narrow (h : 2 ∈ codes) (x : Int) : ReportsOnly codes (narrow x) := .ite (.ok _) (.error h)

/-- FROMDEC reports the power of ten before the quotient (R107, R246). -/
theorem reportsOnly_fromDecRule : ReportsOnly [1, 2] (fromDecRule n d) := by
  obtain hd | hd := le_or_gt 78 d
  · rw [fromDecRule_overflow hd]
    exact .error (by decide)
  · rw [fromDecRule_eq hd]
    exact .ite (.error (by decide)) (.ok _)

/-- TODEC reports the sign, then the power of ten, then the product (R108, R246). -/
theorem reportsOnly_toDecRule : ReportsOnly [1, 2] (toDecRule x d) := by
  obtain hx | hx := lt_or_ge x 0
  · rw [toDecRule_negative hx]
    exact .error (by decide)
  obtain hd | hd := le_or_gt 78 d
  · rw [toDecRule_overflow hx hd]
    exact .error (by decide)
  · rw [toDecRule_eq hx hd]
    exact .ite (.error (by decide)) (.ok _)

/-- Every product of POW's loop goes through `mul64`, which reports OverflowError alone (R150, R181). -/
theorem reportsOnly_powLoop {k e : Nat} : ReportsOnly [2] (powLoop k acc b e) := by
  induction k generalizing acc b e with
  | zero => exact .ok acc
  | succ k ih =>
    have hmul (p q : Int) : ReportsOnly [2] (mul64 p q) := reportsOnly_narrow (by decide) _
    have hacc : ReportsOnly [2] (if e % 2 = 1 then mul64 acc b else .ok acc) := .ite (hmul acc b) (.ok acc)
    rw [powLoop]
    refine .ite (.ok acc) ?_
    split
    case h_1 err herr => exact .error (hacc err herr)
    case h_2 acc' _ =>
      refine .ite (.ok acc') ?_
      split
      case h_1 err herr => exact .error (hmul b b err herr)
      case h_2 => exact ih

/-- EXP2 reports an operand or a result above the range; below the range it gives 0 (R186). -/
theorem reportsOnly_exp2core (T : Nat → Nat) (x : Int) : ReportsOnly [2] (exp2core T x) :=
  .ite (.error (by decide)) (.ite (.ok 0) (reportsOnly_narrow (by decide) _))

/-- The ROM has an entry at every index of a well-formed LDC (R42, R77). -/
theorem exists_rom_eq_some {k : BitVec 8} (h : k.toNat ≤ 4) : ∃ v, rom k = some v := by
  unfold rom
  interval_cases k.toNat
  all_goals exact ⟨_, rfl⟩

/-- A well-formed command's rule reports only the errors of the command's line in the order table (R246): each case names the
line's codes and goes through the rule's tests in their order. -/
theorem ruleOf_reportsOnly {i : Instr} {r : Except ErrorKind Int} (hwf : i.wellFormed = true) (hr : ruleOf i x y = some r) :
    ReportsOnly (errorCodes i) r := by
  cases i <;> cases hr
  case toint | to128 | avg | mov => exact .ok _
  case fromint | fromuint | touint =>
    change ReportsOnly [1] _
    exact .ite (.error (by decide)) (.ok _)
  case from128 =>
    change ReportsOnly [1] _
    exact .ite (.ok _) (.error (by decide))
  case fromdec => exact reportsOnly_fromDecRule
  case todec => exact reportsOnly_toDecRule
  case mulu =>
    change ReportsOnly [1, 2] _
    exact .ite (.error (by decide)) (.ite (.error (by decide)) (.ok _))
  case add | sub | mul =>
    change ReportsOnly [2] _
    exact reportsOnly_narrow (by decide) _
  case neg | muli =>
    change ReportsOnly [2] _
    exact .ite (.error (by decide)) (.ok _)
  case abs =>
    change ReportsOnly [2] _
    exact .ite (.ok _) (.ite (.error (by decide)) (.ok _))
  case pow => exact reportsOnly_powLoop
  case exp2 => exact reportsOnly_exp2core _ _
  case exp =>
    change ReportsOnly [2] _
    exact .ite (.error (by decide)) (.ite (.ok 0) (reportsOnly_exp2core _ _))
  case divu =>
    change ReportsOnly [2, 3] _
    exact .ite (.error (by decide)) (.ite (.error (by decide)) (.ok _))
  case div | divi | inv =>
    change ReportsOnly [2, 3] _
    exact .ite (.error (by decide)) (reportsOnly_narrow (by decide) _)
  case gavg =>
    change ReportsOnly [2, 4] _
    exact .ite (.error (by decide)) (reportsOnly_narrow (by decide) _)
  case sqrt | log2 | ln =>
    change ReportsOnly [4] _
    exact .ite (.error (by decide)) (.ok _)
  case ldc k =>
    obtain ⟨v, hv⟩ := exists_rom_eq_some (of_decide_eq_true hwf)
    rw [hv]
    exact .ok v

/-- Settles O20: a command ends without an error or as its rule says (`exec_cases`), and the rule reports only the command's
errors (`ruleOf_reportsOnly`). -/
theorem commandsReportOnlyTheirErrors : Obligations.CommandsReportOnlyTheirErrors := by
  intro i s t hwf ht herr
  obtain ⟨-, h⟩ | ⟨-, h⟩ | ⟨-, -, r, hr, h⟩ := exec_cases i s <;>
    obtain rfl := Host.Outcome.next.inj (h.symm.trans ht)
  · exact absurd (commitNone_rspErr s) herr
  · exact absurd (commitNone_rspErr s.clearSticky) herr
  · obtain ⟨v, -, hv⟩ | ⟨e, he, hraise⟩ := finish_cases s r
    · rw [hv] at herr
      exact absurd (commit_rspErr s v) herr
    · rw [hraise]
      exact ruleOf_reportsOnly hwf hr e he

end Sys2Proof.Safety
end

section
/-! PROOFS. The reset edge (R270, R271): it wins over the phase and over all other inputs. -/

namespace Sys2Proof.Safety

open Sys2Proof.Machine

/-- STATUS is read from STICKY and LASTERR alone (R40). -/
theorem status_eq_zero {s : State} (hsticky : s.sticky = false) (herr : s.lastErr = 0) : s.status = 0 := by
  rw [State.status, hsticky, herr]
  rfl

/-- Settles O10: a reset edge is `State.resetBlock` without a look at the phase (`step_eq_reset`), and the outputs are read from
the fields it writes. -/
theorem resetEdgeWinsInEveryPhase : Obligations.ResetEdgeWinsInEveryPhase := by
  intro s hrst
  have hsticky : s.resetBlock.tick.sticky = false := resetBlock_sticky s
  have herr : s.resetBlock.tick.lastErr = 0 := resetBlock_lastErr s
  exact ⟨s.resetBlock.tick, step_eq_reset hrst, rfl, herr, hsticky, rfl, rfl, rfl, rfl, rfl, rfl, status_eq_zero hsticky herr⟩

end Sys2Proof.Safety
end
